-- ==== Sys2Proof/Word.lean ====
section
/-! DEFINITION. The word types of the block: the widths spec/00_scope.md R7 and spec/30_encoding.md R70 give.
Every value is unsigned (R10). -/

namespace Sys2Proof

/-- A HOST transaction word: WE bit 39, OFF bits 38:32, DATA bits 31:0 (R70). -/
abbrev Txn := BitVec 40

/-- The bus data width, `REG_WIDTH` (R7): DATA, RDATA, CLKHZ and OVR. -/
abbrev Word := BitVec 32

/-- The counter and prescaler width, `CNT_WIDTH` and `PSC_WIDTH` (R7): PSC, BAUD, CMP, APSC, CNT and PRE. -/
abbrev Half := BitVec 16

/-- A byte offset in the register window, `OFF_WIDTH` (R7). -/
abbrev Offset := BitVec 7

end Sys2Proof
end

