-- ==== Sys2Proof/Syntax.lean ====
section
/-! DEFINITION. The transactions of the block, one constructor per row of spec/opcode_table.json (R2, R76). -/

namespace Sys2Proof

/-- The 18 legal transaction kinds (R76). A write carries its whole DATA word, ignored bits among it (R54, R74). A
read carries nothing, for its DATA is ignored (R73). -/
inductive Instr where
  /-- WR_CLKHZ (R110). -/
  | wrClkhz (data : Word)
  /-- RD_CLKHZ (R111). -/
  | rdClkhz
  /-- WR_PSC (R112). -/
  | wrPsc (data : Word)
  /-- RD_PSC (R113). -/
  | rdPsc
  /-- WR_BAUD (R114). -/
  | wrBaud (data : Word)
  /-- RD_BAUD (R115). -/
  | rdBaud
  /-- WR_OVR (R116). -/
  | wrOvr (data : Word)
  /-- RD_OVR (R117). -/
  | rdOvr
  /-- WR_OVRCTL (R118). -/
  | wrOvrctl (data : Word)
  /-- RD_OVRCTL (R119). -/
  | rdOvrctl
  /-- RD_CALC (R120). -/
  | rdCalc
  /-- CMD_CONFIGURE (R132). -/
  | cmdConfigure
  /-- CMD_DISABLE (R136). -/
  | cmdDisable
  /-- RD_STATUS (R147). -/
  | rdStatus
  /-- RD_CMP (R148). -/
  | rdCmp
  /-- RD_CNT (R149). -/
  | rdCnt
  /-- RD_APSC (R150). -/
  | rdApsc
  /-- RD_TAKE (R175). -/
  | rdTake
deriving DecidableEq, Repr

end Sys2Proof
end

