-- ==== Sys2Proof/WellFormed.lean ====
section
/-! DEFINITION. Which transactions are legal: the four checks of spec/30_encoding.md R76, in its order, on the
fields of a transaction. Every term of `Instr` is well formed by its type, whose operand is one 32-bit word, so the
checks stand here on the transaction's fields, where a bad one can be written down. -/

namespace Sys2Proof

/-- The fields of a TXN word (R70). -/
structure Request where
  we : Bool
  off : Offset
  data : Word
deriving DecidableEq, Repr

/-- R76, check 1: `OFF[1:0] = 00`. -/
def Request.aligned (r : Request) : Bool :=
  r.off.toNat % 4 == 0

/-- R76, check 2: `OFF < 0x30`. -/
def Request.mapped (r : Request) : Bool :=
  r.off.toNat < 0x30

/-- R76, check 3: writes only to CLKHZ, PSC, BAUD, OVR, OVRCTL and CMD, reads from all but CMD. -/
def Request.permitted (r : Request) : Bool :=
  if r.we then [0x00, 0x04, 0x08, 0x0C, 0x10, 0x18].contains r.off.toNat else r.off.toNat != 0x18

/-- R76, check 4: a CMD write's DATA is one of the command codes of R77. -/
def Request.knownCommand (r : Request) : Bool :=
  !(r.we && r.off.toNat == 0x18) || r.data.toNat == 1 || r.data.toNat == 2

/-- A legal transaction passes all four checks (R76, R78). -/
def Request.wellFormed (r : Request) : Bool :=
  r.aligned && r.mapped && r.permitted && r.knownCommand

end Sys2Proof
end

