-- ==== Sys2Proof/Decode.lean ====
section
/-! DEFINITION. The transaction encoding of spec/30_encoding.md: the fields of a TXN word, the register map of
spec/20_memory.md R51, the total decoder (R76, R78, R84), the encoder, and the opcode table as rows of pattern and
mask. -/

namespace Sys2Proof

/-- The registers of the window (R51). -/
inductive Reg where
  | clkhz | psc | baud | ovr | ovrctl | calc | cmd | status | cmp | cnt | apsc | take
deriving DecidableEq, Repr

/-- Why an illegal word is one: the causes of R200, which are the items of R78. -/
inductive BusCause where
  /-- R78 (a): `OFF[1:0]` is not 00. -/
  | misaligned
  /-- R78 (b): no register at this offset. -/
  | unmapped
  /-- R78 (c): a write to CALC, STATUS, CMP, CNT, APSC or TAKE. -/
  | readOnlyWrite
  /-- R78 (d): a read of CMD. -/
  | commandRead
  /-- R78 (e): a CMD word other than CONFIGURE or DISABLE. -/
  | unknownCommand
deriving DecidableEq, Repr

/-- What a TXN word stands for: one instruction, or an illegal word rejected by the name of its cause (R84). -/
inductive Decoded where
  | instr (i : Instr)
  | illegal (c : BusCause)
deriving DecidableEq, Repr

/-- WE, bit 39: 1 = write (R70, R71). -/
def txnWe (w : Txn) : Bool :=
  w.getLsbD 39

/-- OFF, bits 38:32 (R70, R72). -/
def txnOff (w : Txn) : Offset :=
  w.extractLsb' 32 7

/-- DATA, bits 31:0 (R70, R73). -/
def txnData (w : Txn) : Word :=
  w.extractLsb' 0 32

/-- `(WE << 39) | (OFF << 32) | DATA` (R76). -/
def mkTxn (we : Bool) (off : Offset) (data : Word) : Txn :=
  BitVec.ofBool we ++ off ++ data

/-- The fields of a word, for the checks of WellFormed. -/
def txnRequest (w : Txn) : Request :=
  { we := txnWe w, off := txnOff w, data := txnData w }

/-- The byte offset of a register (R51). -/
def Reg.offset : Reg → Offset
  | .clkhz => 0x00
  | .psc => 0x04
  | .baud => 0x08
  | .ovr => 0x0C
  | .ovrctl => 0x10
  | .calc => 0x14
  | .cmd => 0x18
  | .status => 0x1C
  | .cmp => 0x20
  | .cnt => 0x24
  | .apsc => 0x28
  | .take => 0x2C

/-- The register `OFF[6:2]` selects, counted from 0 (R72); none at 0x30 to 0x7C (R51). -/
def regOfIndex : Nat → Option Reg
  | 0 => some .clkhz
  | 1 => some .psc
  | 2 => some .baud
  | 3 => some .ovr
  | 4 => some .ovrctl
  | 5 => some .calc
  | 6 => some .cmd
  | 7 => some .status
  | 8 => some .cmp
  | 9 => some .cnt
  | 10 => some .apsc
  | 11 => some .take
  | _ => none

/-- The command code of CONFIGURE (R77). -/
def configureCode : Word := 0x00000001

/-- The command code of DISABLE (R77). -/
def disableCode : Word := 0x00000002

/-- A write of CMD: DATA is compared whole with the command codes (R74, R77). -/
def decodeCommand (data : Word) : Decoded :=
  if data = configureCode then .instr .cmdConfigure
  else if data = disableCode then .instr .cmdDisable
  else .illegal .unknownCommand

/-- A write of a mapped register (R76, checks 3 and 4). -/
def decodeWrite (r : Reg) (data : Word) : Decoded :=
  match r with
  | .clkhz => .instr (.wrClkhz data)
  | .psc => .instr (.wrPsc data)
  | .baud => .instr (.wrBaud data)
  | .ovr => .instr (.wrOvr data)
  | .ovrctl => .instr (.wrOvrctl data)
  | .cmd => decodeCommand data
  | .calc | .status | .cmp | .cnt | .apsc | .take => .illegal .readOnlyWrite

/-- A read of a mapped register, which looks at no DATA bit (R73, R76 check 3). -/
def decodeRead (r : Reg) : Decoded :=
  match r with
  | .clkhz => .instr .rdClkhz
  | .psc => .instr .rdPsc
  | .baud => .instr .rdBaud
  | .ovr => .instr .rdOvr
  | .ovrctl => .instr .rdOvrctl
  | .calc => .instr .rdCalc
  | .cmd => .illegal .commandRead
  | .status => .instr .rdStatus
  | .cmp => .instr .rdCmp
  | .cnt => .instr .rdCnt
  | .apsc => .instr .rdApsc
  | .take => .instr .rdTake

/-- A transaction given by its fields: the checks of R76 in its order. -/
def decodeFields (we : Bool) (off : Offset) (data : Word) : Decoded :=
  if off.extractLsb' 0 2 ≠ 0 then .illegal .misaligned
  else
    match regOfIndex (off.extractLsb' 2 5).toNat with
    | none => .illegal .unmapped
    | some r => if we then decodeWrite r data else decodeRead r

/-- The decoder, total on every 40-bit word (R84). -/
def decode (w : Txn) : Decoded :=
  decodeFields (txnWe w) (txnOff w) (txnData w)

/-- A write transaction of a register. -/
def writeTxn (r : Reg) (data : Word) : Txn :=
  mkTxn true r.offset data

/-- A read transaction of a register, its ignored DATA written as 0 (R73). -/
def readTxn (r : Reg) : Txn :=
  mkTxn false r.offset 0

/-- The encoder: the word of an instruction (R76). -/
def encode : Instr → Txn
  | .wrClkhz d => writeTxn .clkhz d
  | .rdClkhz => readTxn .clkhz
  | .wrPsc d => writeTxn .psc d
  | .rdPsc => readTxn .psc
  | .wrBaud d => writeTxn .baud d
  | .rdBaud => readTxn .baud
  | .wrOvr d => writeTxn .ovr d
  | .rdOvr => readTxn .ovr
  | .wrOvrctl d => writeTxn .ovrctl d
  | .rdOvrctl => readTxn .ovrctl
  | .rdCalc => readTxn .calc
  | .cmdConfigure => writeTxn .cmd configureCode
  | .cmdDisable => writeTxn .cmd disableCode
  | .rdStatus => readTxn .status
  | .rdCmp => readTxn .cmp
  | .rdCnt => readTxn .cnt
  | .rdApsc => readTxn .apsc
  | .rdTake => readTxn .take

/-- A row of spec/opcode_table.json. -/
structure Row where
  mnemonic : String
  pattern : Txn
  mask : Txn
deriving DecidableEq, Repr

/-- A word lies in a row where it has the row's pattern under the row's mask (R76). -/
def Row.covers (r : Row) (w : Txn) : Bool :=
  w &&& r.mask == r.pattern

/-- The mask of a row whose DATA is "any" or x (R76). -/
def anyData : Txn := 0xFF00000000

/-- The mask of a CMD row (R76). -/
def wholeWord : Txn := 0xFFFFFFFFFF

/-- The table's row of an instruction, as spec/opcode_table.json gives it. -/
def rowOf : Instr → Row
  | .wrClkhz _ => ⟨"WR_CLKHZ", 0x8000000000, anyData⟩
  | .rdClkhz => ⟨"RD_CLKHZ", 0x0000000000, anyData⟩
  | .wrPsc _ => ⟨"WR_PSC", 0x8400000000, anyData⟩
  | .rdPsc => ⟨"RD_PSC", 0x0400000000, anyData⟩
  | .wrBaud _ => ⟨"WR_BAUD", 0x8800000000, anyData⟩
  | .rdBaud => ⟨"RD_BAUD", 0x0800000000, anyData⟩
  | .wrOvr _ => ⟨"WR_OVR", 0x8C00000000, anyData⟩
  | .rdOvr => ⟨"RD_OVR", 0x0C00000000, anyData⟩
  | .wrOvrctl _ => ⟨"WR_OVRCTL", 0x9000000000, anyData⟩
  | .rdOvrctl => ⟨"RD_OVRCTL", 0x1000000000, anyData⟩
  | .rdCalc => ⟨"RD_CALC", 0x1400000000, anyData⟩
  | .cmdConfigure => ⟨"CMD_CONFIGURE", 0x9800000001, wholeWord⟩
  | .cmdDisable => ⟨"CMD_DISABLE", 0x9800000002, wholeWord⟩
  | .rdStatus => ⟨"RD_STATUS", 0x1C00000000, anyData⟩
  | .rdCmp => ⟨"RD_CMP", 0x2000000000, anyData⟩
  | .rdCnt => ⟨"RD_CNT", 0x2400000000, anyData⟩
  | .rdApsc => ⟨"RD_APSC", 0x2800000000, anyData⟩
  | .rdTake => ⟨"RD_TAKE", 0x2C00000000, anyData⟩

/-- One instruction of each kind, in the table's order. -/
def instrKinds : List Instr :=
  [.wrClkhz 0, .rdClkhz, .wrPsc 0, .rdPsc, .wrBaud 0, .rdBaud, .wrOvr 0, .rdOvr, .wrOvrctl 0] ++
  [.rdOvrctl, .rdCalc, .cmdConfigure, .cmdDisable, .rdStatus, .rdCmp, .rdCnt, .rdApsc, .rdTake]

/-- The opcode table: its 18 rows in order. -/
def opcodeTable : List Row :=
  instrKinds.map rowOf

/-- The TXN word of an instruction whose table bits are `w`: a TXN is one 40-bit word, so the table's bit numbers
are the word's own, and bits above `nbits` are 0. -/
def txnOfTable (nbits w : Nat) : Txn :=
  BitVec.ofNat 40 (w % 2 ^ nbits)

/-- What the decoder reads from a row's word of the table (none where it refuses). -/
def decodeTableWord (nbits w : Nat) : Option Instr :=
  match decode (txnOfTable nbits w) with
  | .instr i => some i
  | .illegal _ => none

end Sys2Proof
end

