-- ==== Sys2Proof/Machine/State.lean ====
section
/-! DEFINITION. The state of the block: the 13 elements of spec/10_state.md R22 (`Block`), and beside them what the
model itself keeps of the run (`State`). Plain data throughout. -/

namespace Sys2Proof.Machine

/-- The causes of a ConfigurationError (R203); their codes are `Cause.code`. -/
inductive Cause where
  | pscInvalid
  | baudZero
  | tickZero
  | tickOverflow
deriving DecidableEq, Repr

/-- The widths of an access narrower than a register (R52). -/
inductive NarrowSize where
  | byte
  | half
deriving DecidableEq, Repr

/-- One step of an agent (R9), or an input outside the interface. -/
inductive Event where
  /-- One cycle of the timer's input clock (R140). -/
  | clk
  /-- One bus transaction (R70). -/
  | host (w : Txn)
  /-- The reset input (R230). -/
  | reset
  /-- An 8- or 16-bit access at an offset of the window, which no TXN can spell (R52, D35). -/
  | narrow (size : NarrowSize) (we : Bool) (off : Offset)
deriving DecidableEq, Repr

/-- The response to a transaction (R70, R201). -/
inductive Response where
  /-- A write that was done. -/
  | ok
  /-- A read that was done, with its RDATA. -/
  | data (rdata : Word)
  /-- The error response to an illegal word. It carries no data (R201). -/
  | busError
deriving DecidableEq, Repr

/-- One entry of the fault history: the offending OFF and WE (R200, R201). -/
structure BusFault where
  off : Offset
  we : Bool
deriving DecidableEq, Repr

/-- The state elements of the block (R22): all the state it has (R20). -/
structure Block where
  /-- CLKHZ (R23). -/
  clkhz : Word
  /-- PSC, the staged prescaler (R24). -/
  psc : Half
  /-- BAUD (R25). -/
  baud : Half
  /-- OVR (R26). -/
  ovr : Word
  /-- OVR_EN (R27). -/
  ovrEn : Bool
  /-- CMP, the compare threshold (R28). -/
  cmp : Half
  /-- APSC, the active prescaler (R29). -/
  apsc : Half
  /-- CNT, the counter (R30). -/
  cnt : Half
  /-- PRE, the hidden prescaler phase (R31). -/
  pre : Half
  /-- EN (R32). -/
  en : Bool
  /-- HALTED (R33). -/
  halted : Bool
  /-- CAUSE (R34). -/
  cause : BitVec 3
  /-- F, the tick flag (R35). -/
  f : Bool
deriving DecidableEq, Repr

/-- The machine: the block, and what the model keeps of the run. Only `block` is hardware state. -/
structure State where
  /-- The hardware. -/
  block : Block
  /-- The response to the last HOST transaction, none before the first. Log entry 4. -/
  response : Option Response
  /-- The fault history, oldest first, which no later step clears (R201). Log entry 3. -/
  faults : List BusFault
  /-- The agents' steps to come that are known, oldest first (R56). Log entry 1. -/
  pending : List Event
  /-- How many steps were taken, the index free values are drawn with. Log entry 2. -/
  steps : Nat
deriving DecidableEq, Repr

/-- Why a step can stop the machine for good. The spec names no such event: a BusError ends one transaction and the
next proceeds normally (R201), and after a ConfigurationError every agent still steps (R135, R140). So there is no
constructor, nobody raises a fault, and that is safe to rely on only as far as this model goes. -/
inductive Fault
deriving DecidableEq, Repr

/-- What the model gives no meaning. -/
inductive Refusal where
  /-- An instruction without a meaning yet, by the table's mnemonic. No arm raises it. Safe: the model stops. -/
  | notModelled (mnemonic : String)
  /-- Raised by `runEvent` for an 8- or 16-bit access, which the spec has a model refuse by name (R52, D35, I11).
  Safe: the model stops, and no claim about such an access is provable. -/
  | narrowAccess (size : NarrowSize)
deriving DecidableEq, Repr

/-- Every state element at its reset value, 0 (R22, R230). -/
def Block.reset : Block where
  clkhz := 0
  psc := 0
  baud := 0
  ovr := 0
  ovrEn := false
  cmp := 0
  apsc := 0
  cnt := 0
  pre := 0
  en := false
  halted := false
  cause := 0
  f := false

/-- The machine right after reset, at the start of a run: no response given, no fault recorded, no step known. -/
def State.reset : State where
  block := Block.reset
  response := none
  faults := []
  pending := []
  steps := 0

end Sys2Proof.Machine
end

