-- ==== Sys2Proof/Machine/Flags.lean ====
section
/-! DEFINITION. The block's one-bit state: the run gate, the tick flag with its producer and its consumer, and the
output line (spec/42_ticksignal.md, spec/10_state.md R32, R33, R36). -/

namespace Sys2Proof.Machine

/-- A CLK step counts: EN = 1 and HALTED = 0 (R140, R142). -/
def Block.running (b : Block) : Bool :=
  b.en && !b.halted

/-- The output line `irq_o`, a level equal to F (R36). -/
def Block.irqO (b : Block) : Bool :=
  b.f

/-- Set(), the producer's action (R172). -/
def Block.setFlag (b : Block) : Block :=
  { b with f := true }

/-- What Take() leaves: F <- 0 (R174). -/
def Block.clearFlag (b : Block) : Block :=
  { b with f := false }

/-- Take(), the consumer's atomic test-and-clear: the flag as it was, and the block with the flag clear (R174). -/
def Block.take (b : Block) : Bool × Block :=
  (b.f, b.clearFlag)

end Sys2Proof.Machine
end

