-- ==== Sys2Proof/Config.lean ====
section
/-! DEFINITION. What the spec leaves to the platform or to the run. Each constant is opaque: nothing in Lean can
evaluate it, so a statement about it holds for every value it may have. -/

namespace Sys2Proof

/-- The three agents that step the block (R9). -/
inductive Agent where
  | clk
  | host
  | reset
deriving DecidableEq, Repr, Inhabited

/-- `BLOCK_BASE`, the host address of offset 0: OPEN, decided by the platform (R7, R50, I14). -/
opaque Config.blockBase : Nat

/-- FREE VALUE. The agent whose step comes at a given count of steps, where no event is listed as pending: the
agents interleave in every order (R56). Log entry 2. -/
opaque Config.freeAgent : Nat → Agent

/-- FREE VALUE. The transaction the HOST issues at a given count of steps, where none is listed as pending (R56,
R211). Log entry 2. -/
opaque Config.freeTxn : Nat → Txn

/-- FREE VALUE. What a 16-bit register holds after a sum that does not fit it, drawn at a given count of steps.
R11 stores a sum only where it fits, which R37 gives in every reachable state. Log entry 5. -/
opaque Config.freeSum : Nat → Half

end Sys2Proof
end

