-- ==== Sys2Proof/Machine/Operands.lean ====
section
/-! DEFINITION. Operand forms: how a write takes its operand from DATA (spec/30_encoding.md R74), how a read's RDATA
is put together (R75), and how a host address reaches an offset (R72, R50). -/

namespace Sys2Proof.Machine

/-- `DATA[31:0]`, the operand of CLKHZ and OVR (R74). -/
def wordOperand (data : Word) : Word :=
  data

/-- `DATA[15:0]`, the operand of PSC and BAUD; bits 31:16 are ignored (R54, R74). -/
def halfOperand (data : Word) : Half :=
  data.extractLsb' 0 16

/-- `DATA[0]`, the operand of OVR_EN; bits 31:1 are ignored (R54, R74). -/
def bitOperand (data : Word) : Bool :=
  data.getLsbD 0

/-- RDATA of a 32-bit register (R75). -/
def wordRdata (v : Word) : Word :=
  v

/-- RDATA of a 16-bit register: `zext_32` (R75). -/
def halfRdata (v : Half) : Word :=
  v.setWidth 32

/-- RDATA of a 1-bit element: `zext_32` (R75). -/
def bitRdata (v : Bool) : Word :=
  (BitVec.ofBool v).setWidth 32

/-- RDATA of STATUS: `zext_32({CAUSE, HALTED, EN})` (R75, R147). -/
def statusRdata (cause : BitVec 3) (halted en : Bool) : Word :=
  (cause ++ BitVec.ofBool halted ++ BitVec.ofBool en).setWidth 32

/-- RDATA of CALC: `{ERR, 12'b0, CAUSE, TICK}` (R75, R120). -/
def calcRdata (err : Bool) (cause : BitVec 3) (tick : Half) : Word :=
  BitVec.ofBool err ++ (0 : BitVec 12) ++ cause ++ tick

/-- The data a response brings: RDATA of a read; none for a write; 0 for an error, the value a model that must give
one gives (R201, I20). -/
def Response.rdata : Response → Option Word
  | .ok => none
  | .data v => some v
  | .busError => some 0

/-- The host address of an offset, `BLOCK_BASE + OFF` (R72). -/
def hostAddress (off : Offset) : Nat :=
  Config.blockBase + off.toNat

/-- The offset a host address reaches, none outside the 128-byte window (R50, R72): the platform's address decoding,
which lies outside the block. -/
def offsetOfAddress (addr : Nat) : Option Offset :=
  if Config.blockBase ≤ addr ∧ addr < Config.blockBase + 128 then
    some (BitVec.ofNat 7 (addr - Config.blockBase))
  else none

end Sys2Proof.Machine
end

