-- ==== Sys2Proof/Machine/TickCalc.lean ====
section
/-! DEFINITION. The tick-count calculator of spec/40_clockconfig.md: combinational, with no state of its own (R104,
R109). -/

namespace Sys2Proof.Machine

/-- The code of a cause (R203). -/
def Cause.code : Cause → BitVec 3
  | .pscInvalid => 1
  | .baudZero => 2
  | .tickZero => 3
  | .tickOverflow => 4

/-- What TickCalc returns (R104): `(tick, 0)`, or `(0, cause)`. -/
inductive Verdict where
  | tick (t : Half)
  | error (c : Cause)
deriving DecidableEq, Repr

/-- The `tick` of the returned pair, 0 with an error (R104). -/
def Verdict.tickValue : Verdict → Half
  | .tick t => t
  | .error _ => 0

/-- The `cause` of the returned pair, 0 with no error (R104). -/
def Verdict.causeCode : Verdict → BitVec 3
  | .tick _ => 0
  | .error c => c.code

/-- `TICK_MAX` (R7). -/
def tickMax : Nat := 65535

/-- The ideal ratio `clkhz / d` rounded to the nearest integer, a tie rounding up (R102). -/
def roundedRatio (clkhz d : Nat) : Nat :=
  (2 * clkhz + d) / (2 * d)

/-- The range check of the effective tick count: legal exactly in 1 to 65535 (R103, R104). -/
def rangeCheck (t : Nat) : Verdict :=
  if t = 0 then .error .tickZero
  else if tickMax < t then .error .tickOverflow
  else .tick (BitVec.ofNat 16 t)

/-- TickCalc in full: the checks in the order of R105, the override first where it is present (R104, R106). -/
def tickCalc (clkhz : Word) (psc baud : Half) (ovr : Word) (ovrEn : Bool) : Verdict :=
  if psc = 0 then .error .pscInvalid
  else if ovrEn then rangeCheck ovr.toNat
  else if baud = 0 then .error .baudZero
  else rangeCheck (roundedRatio clkhz.toNat (psc.toNat * baud.toNat))

/-- The range check on an integer: a negative tick is TICK_ZERO, never wrapped (R121). -/
def rangeCheckInt (t : Int) : Verdict :=
  if t ≤ 0 then .error .tickZero
  else if (tickMax : Int) < t then .error .tickOverflow
  else .tick (BitVec.ofInt 16 t)

/-- The effective tick count on integers: the override where it is present, else the rounded ratio (R102, R106). -/
def effectiveTickInt (clkhz psc baud : Int) (override : Option Int) : Int :=
  match override with
  | some t => t
  | none => Int.fdiv (2 * clkhz + psc * baud) (2 * (psc * baud))

/-- The source's ClockConfig on integer inputs, the override an optional integer, with every negative input a
ConfigurationError whether or not the override is present, as R121 has a model with integer inputs do: a prescaler below
1 is PSC_INVALID, a negative baud is BAUD_ZERO, a tick below 1 is TICK_ZERO. A baud of 0 is checked only without the
override (R106). DESIGN CHOICE (log entry 11): R121 names no cause for a negative clock, and the model gives TICK_ZERO;
where several inputs are bad, the first in R105's order is reported. DESIGN CHOICE (log entry 15): a prescaler, baud or
clock above its register's width is taken as the integer it is, neither rejected nor truncated; the tick alone has an
upper bound. -/
def clockConfigInt (clkhz psc baud : Int) (override : Option Int) : Verdict :=
  if psc ≤ 0 then .error .pscInvalid
  else if baud < 0 ∨ (baud = 0 ∧ override = none) then .error .baudZero
  else if clkhz < 0 then .error .tickZero
  else rangeCheckInt (effectiveTickInt clkhz psc baud override)

/-- TickCalc on the profile registers as they stand at the step (R109). -/
def Block.verdict (b : Block) : Verdict :=
  tickCalc b.clkhz b.psc b.baud b.ovr b.ovrEn

/-- RDATA of CALC for a verdict: ERR is set exactly with a cause (R120). -/
def verdictRdata (v : Verdict) : Word :=
  calcRdata (v.causeCode != 0) v.causeCode v.tickValue

end Sys2Proof.Machine
end

