-- ==== Sys2Proof/Machine/Ops.lean ====
section
/-! DEFINITION. The named operations on the block and on the machine that the meanings are made of: register updates,
the completion of a transaction, the two error outcomes of spec/60_exceptions.md (BusError R200, R201;
ConfigurationError R202) and RESET (spec/70_reset_and_hazards.md R230). -/

namespace Sys2Proof.Machine

/-- CLKHZ <- v. -/
def Block.setClkhz (b : Block) (v : Word) : Block :=
  { b with clkhz := v }

/-- PSC <- v. -/
def Block.setPsc (b : Block) (v : Half) : Block :=
  { b with psc := v }

/-- BAUD <- v. -/
def Block.setBaud (b : Block) (v : Half) : Block :=
  { b with baud := v }

/-- OVR <- v. -/
def Block.setOvr (b : Block) (v : Word) : Block :=
  { b with ovr := v }

/-- OVR_EN <- v. -/
def Block.setOvrEn (b : Block) (v : Bool) : Block :=
  { b with ovrEn := v }

/-- CNT <- v. -/
def Block.setCnt (b : Block) (v : Half) : Block :=
  { b with cnt := v }

/-- PRE <- v. -/
def Block.setPre (b : Block) (v : Half) : Block :=
  { b with pre := v }

/-- EN <- 0, and nothing else (R136, R137). -/
def Block.disarm (b : Block) : Block :=
  { b with en := false }

/-- What a successful CONFIGURE writes, all in one step (R132, R133). -/
def Block.arm (b : Block) (tick : Half) : Block :=
  { b with cnt := 0, pre := 0, cmp := tick, apsc := b.psc, en := true }

/-- raise ConfigurationError(cause): HALTED and CAUSE, and nothing else (R202). -/
def Block.configurationError (b : Block) (c : Cause) : Block :=
  { b with halted := true, cause := c.code }

/-- `v + 1` where it fits 16 bits (R11); where it does not, the free value given (log entry 5). -/
def increment (free v : Half) : Half :=
  if v.toNat + 1 < 2 ^ 16 then v + 1 else free

/-- A write transaction completes with OK and leaves the block `b` (R70). -/
def finishWrite (b : Block) (s : State) : Host.Outcome State Fault Refusal :=
  .next { s with block := b, response := some .ok }

/-- A read transaction completes with its RDATA and leaves the block `b` (R70). -/
def finishRead (rdata : Word) (b : Block) (s : State) : Host.Outcome State Fault Refusal :=
  .next { s with block := b, response := some (.data rdata) }

/-- raise BusError(off, we): an error response, no state of the block changed, and one more entry in the fault history
(R200, R201). -/
def busError (off : Offset) (we : Bool) (s : State) : Host.Outcome State Fault Refusal :=
  .next { s with response := some .busError, faults := s.faults ++ [{ off := off, we := we }] }

/-- RESET: every state element at its reset value, in one step, in any state (R230). What the model keeps of the run
is no hardware state, and stays. -/
def resetEvent (s : State) : Host.Outcome State Fault Refusal :=
  .next { s with block := Block.reset }

end Sys2Proof.Machine
end

