-- ==== Sys2Proof/Machine/ClockConfig.lean ====
section
/-! DEFINITION. The profile register transactions and the read of CALC (spec/40_clockconfig.md R110 to R120). -/

namespace Sys2Proof.Machine

/-- WR_CLKHZ: `CLKHZ <- DATA[31:0]` (R110). -/
def execWrClkhz (data : Word) (s : State) : Host.Outcome State Fault Refusal :=
  finishWrite (s.block.setClkhz (wordOperand data)) s

/-- RD_CLKHZ: `RDATA <- CLKHZ` (R111). -/
def execRdClkhz (s : State) : Host.Outcome State Fault Refusal :=
  finishRead (wordRdata s.block.clkhz) s.block s

/-- WR_PSC: `PSC <- DATA[15:0]` (R112). -/
def execWrPsc (data : Word) (s : State) : Host.Outcome State Fault Refusal :=
  finishWrite (s.block.setPsc (halfOperand data)) s

/-- RD_PSC: `RDATA <- zext_32(PSC)` (R113). -/
def execRdPsc (s : State) : Host.Outcome State Fault Refusal :=
  finishRead (halfRdata s.block.psc) s.block s

/-- WR_BAUD: `BAUD <- DATA[15:0]` (R114). -/
def execWrBaud (data : Word) (s : State) : Host.Outcome State Fault Refusal :=
  finishWrite (s.block.setBaud (halfOperand data)) s

/-- RD_BAUD: `RDATA <- zext_32(BAUD)` (R115). -/
def execRdBaud (s : State) : Host.Outcome State Fault Refusal :=
  finishRead (halfRdata s.block.baud) s.block s

/-- WR_OVR: `OVR <- DATA[31:0]` (R116). -/
def execWrOvr (data : Word) (s : State) : Host.Outcome State Fault Refusal :=
  finishWrite (s.block.setOvr (wordOperand data)) s

/-- RD_OVR: `RDATA <- OVR` (R117). -/
def execRdOvr (s : State) : Host.Outcome State Fault Refusal :=
  finishRead (wordRdata s.block.ovr) s.block s

/-- WR_OVRCTL: `OVR_EN <- DATA[0]` (R118). -/
def execWrOvrctl (data : Word) (s : State) : Host.Outcome State Fault Refusal :=
  finishWrite (s.block.setOvrEn (bitOperand data)) s

/-- RD_OVRCTL: `RDATA <- zext_32(OVR_EN)` (R119). -/
def execRdOvrctl (s : State) : Host.Outcome State Fault Refusal :=
  finishRead (bitRdata s.block.ovrEn) s.block s

/-- RD_CALC: `RDATA <- {ERR, 12'b0, cause, tick}` of the registers as they stand. It never sets HALTED (R120). -/
def execRdCalc (s : State) : Host.Outcome State Fault Refusal :=
  finishRead (verdictRdata s.block.verdict) s.block s

end Sys2Proof.Machine
end

