-- ==== Sys2Proof/Machine/SymbolTimer.lean ====
section
/-! DEFINITION. The symbol timer of spec/41_symboltimer.md: the commands (R132, R136), the CLK step (R140) with the
prescaled tick (R141), and the reads of STATUS, CMP, CNT and APSC (R147 to R150). -/

namespace Sys2Proof.Machine

/-- What CONFIGURE does to the block (R132): nothing while halted (R135), a ConfigurationError where TickCalc fails,
else the armed timer. -/
def Block.configure (b : Block) : Block :=
  if b.halted then b
  else
    match b.verdict with
    | .error c => b.configurationError c
    | .tick t => b.arm t

/-- CMD_CONFIGURE: the response is OK in each of its three cases (R132). -/
def execCmdConfigure (s : State) : Host.Outcome State Fault Refusal :=
  finishWrite s.block.configure s

/-- CMD_DISABLE: `EN <- 0`, in every state (R136, R146). -/
def execCmdDisable (s : State) : Host.Outcome State Fault Refusal :=
  finishWrite s.block.disarm s

/-- RD_STATUS: `RDATA <- zext_32({CAUSE, HALTED, EN})` (R147). -/
def execRdStatus (s : State) : Host.Outcome State Fault Refusal :=
  finishRead (statusRdata s.block.cause s.block.halted s.block.en) s.block s

/-- RD_CMP: `RDATA <- zext_32(CMP)` (R148). -/
def execRdCmp (s : State) : Host.Outcome State Fault Refusal :=
  finishRead (halfRdata s.block.cmp) s.block s

/-- RD_CNT: `RDATA <- zext_32(CNT)`, the value at this point of the interleaving (R149, R62). -/
def execRdCnt (s : State) : Host.Outcome State Fault Refusal :=
  finishRead (halfRdata s.block.cnt) s.block s

/-- RD_APSC: `RDATA <- zext_32(APSC)` (R150). -/
def execRdApsc (s : State) : Host.Outcome State Fault Refusal :=
  finishRead (halfRdata s.block.apsc) s.block s

/-- `PRE == APSC - 1`, written as an equation of naturals with no subtraction (R140; log entry 7 on APSC = 0). -/
def Block.preAtEnd (b : Block) : Bool :=
  b.pre.toNat + 1 == b.apsc.toNat

/-- `CNT == CMP - 1`, written as an equation of naturals with no subtraction (R141; log entry 7 on CMP = 0). -/
def Block.cntAtEnd (b : Block) : Bool :=
  b.cnt.toNat + 1 == b.cmp.toNat

/-- PTick(): the counter advances, or returns to 0 with a MATCH, which is Set() in the same step (R141, R172). -/
def Block.pTick (free : Half) (b : Block) : Block :=
  if b.cntAtEnd then (b.setCnt 0).setFlag else b.setCnt (increment free b.cnt)

/-- A CLK step on the block (R140). -/
def Block.clk (free : Half) (b : Block) : Block :=
  if b.running then
    if b.preAtEnd then Block.pTick free (b.setPre 0) else b.setPre (increment free b.pre)
  else b

/-- A CLK step now would be a MATCH (R141). -/
def Block.matchNow (b : Block) : Bool :=
  b.running && b.preAtEnd && b.cntAtEnd

/-- The CLK agent's step: it reaches the block alone, and gives no response. -/
def clkEvent (s : State) : Host.Outcome State Fault Refusal :=
  .next { s with block := s.block.clk (Config.freeSum s.steps) }

end Sys2Proof.Machine
end

