-- ==== Sys2Proof/Machine/TickSignal.lean ====
section
/-! DEFINITION. The tick flag's transaction (spec/42_ticksignal.md R175); Set() and Take() stand in Flags.lean. -/

namespace Sys2Proof.Machine

/-- RD_TAKE: `v = Take()`, `RDATA <- zext_32(v)`, one atomic step (R174, R175). -/
def execRdTake (s : State) : Host.Outcome State Fault Refusal :=
  finishRead (bitRdata s.block.take.1) s.block.take.2 s

end Sys2Proof.Machine
end

