-- ==== Sys2Proof/Machine/Dispatch.lean ====
section
/-! DEFINITION. The dispatch: one arm per row of spec/opcode_table.json (R76). -/

namespace Sys2Proof.Machine

def exec (i : Instr) (s : State) : Host.Outcome State Fault Refusal :=
  match i with
  | .wrClkhz data => Sys2Proof.Machine.execWrClkhz data s
  | .rdClkhz => Sys2Proof.Machine.execRdClkhz s
  | .wrPsc data => Sys2Proof.Machine.execWrPsc data s
  | .rdPsc => Sys2Proof.Machine.execRdPsc s
  | .wrBaud data => Sys2Proof.Machine.execWrBaud data s
  | .rdBaud => Sys2Proof.Machine.execRdBaud s
  | .wrOvr data => Sys2Proof.Machine.execWrOvr data s
  | .rdOvr => Sys2Proof.Machine.execRdOvr s
  | .wrOvrctl data => Sys2Proof.Machine.execWrOvrctl data s
  | .rdOvrctl => Sys2Proof.Machine.execRdOvrctl s
  | .rdCalc => Sys2Proof.Machine.execRdCalc s
  | .cmdConfigure => Sys2Proof.Machine.execCmdConfigure s
  | .cmdDisable => Sys2Proof.Machine.execCmdDisable s
  | .rdStatus => Sys2Proof.Machine.execRdStatus s
  | .rdCmp => Sys2Proof.Machine.execRdCmp s
  | .rdCnt => Sys2Proof.Machine.execRdCnt s
  | .rdApsc => Sys2Proof.Machine.execRdApsc s
  | .rdTake => Sys2Proof.Machine.execRdTake s

end Sys2Proof.Machine
end

