-- ==== Sys2Proof/Machine/Events.lean ====
section
/-! DEFINITION. The agents' steps (spec/00_scope.md R9): which comes next (R56), and what it does. -/

namespace Sys2Proof.Machine

/-- FREE VALUE. The event at a count of steps where none is listed: any agent, and for the HOST any word (R56). -/
def freeEvent (n : Nat) : Event :=
  match Config.freeAgent n with
  | .clk => .clk
  | .host => .host (Config.freeTxn n)
  | .reset => .reset

/-- The event the next step delivers: the oldest pending one, else a free one (log entries 1 and 2). -/
def State.nextEvent (s : State) : Event :=
  match s.pending with
  | e :: _ => e
  | [] => freeEvent s.steps

/-- The machine once its next event has been taken off the list and the step counted. -/
def State.advance (s : State) : State :=
  { s with pending := s.pending.tail, steps := s.steps + 1 }

/-- A HOST step: the transaction is decoded and run, or raises BusError (R76, R78, R200). -/
def runTxn (w : Txn) (s : State) : Host.Outcome State Fault Refusal :=
  match decode w with
  | .instr i => exec i s
  | .illegal _ => busError (txnOff w) (txnWe w) s

/-- One event (R9); a narrow access is refused by name (R52, D35). -/
def runEvent (e : Event) (s : State) : Host.Outcome State Fault Refusal :=
  match e with
  | .clk => clkEvent s
  | .host w => runTxn w s
  | .reset => resetEvent s
  | .narrow size _ _ => .refused (.narrowAccess size)

end Sys2Proof.Machine
end

