-- ==== Sys2Proof/Machine/Step.lean ====
section
/-! DEFINITION. One step of the machine: the next agent's step (spec/00_scope.md R9, spec/20_memory.md R56). The block
has no program counter and fetches nothing (R21): a transaction reaches it as a pending HOST event. -/

namespace Sys2Proof.Machine

/-- One step: the next event is taken and run. -/
def step (s : State) : Host.Outcome State Fault Refusal :=
  runEvent s.nextEvent s.advance

/-- The machine whose next step is the HOST transaction with these bits (log entry 8). -/
def State.withFetchWord (s : State) (nbits w : Nat) : State :=
  { s with pending := .host (txnOfTable nbits w) :: s.pending }

end Sys2Proof.Machine
end

