-- ==== Sys2Proof/Machine/Assembly.lean ====
section
/-! DEFINITION. The assembly lines of spec/30_encoding.md R81 and the pseudo-instructions of R82, as the lists of
agents' steps they stand for. -/

namespace Sys2Proof.Machine

/-- One line of assembly (R81). An immediate is a natural as written, before its range is checked. -/
inductive Line where
  | wr (r : Reg) (imm : Nat)
  | rd (r : Reg)
  | cmdConfigure
  | cmdDisable
  /-- `CLK <n>`: n steps of the CLK agent with no HOST step between them. -/
  | clk (n : Nat)
  | reset
deriving DecidableEq, Repr

/-- The pseudo-instructions (R82). -/
inductive Pseudo where
  | configProfile (clk psc baud : Nat)
  | configProfileOvr (clk psc baud ovr : Nat)
  | configTick (tick psc : Nat)
  | poll
  | check
deriving DecidableEq, Repr

/-- The registers `WR` may name (R81). -/
def assemblyWritable : Reg → Bool
  | .clkhz | .psc | .baud | .ovr | .ovrctl => true
  | .calc | .cmd | .status | .cmp | .cnt | .apsc | .take => false

/-- The registers `RD` may name: all but CMD (R81). -/
def assemblyReadable (r : Reg) : Bool :=
  r != .cmd

/-- The steps a line stands for; none where the syntax does not allow it (R81). -/
def Line.assemble : Line → Option (List Event)
  | .wr r imm =>
    if assemblyWritable r && decide (imm < 2 ^ 32) then some [.host (writeTxn r (BitVec.ofNat 32 imm))] else none
  | .rd r => if assemblyReadable r then some [.host (readTxn r)] else none
  | .cmdConfigure => some [.host (writeTxn .cmd configureCode)]
  | .cmdDisable => some [.host (writeTxn .cmd disableCode)]
  | .clk n => some (List.replicate n .clk)
  | .reset => some [.reset]

/-- A program's steps: those of its lines in order; none where a line is not allowed. -/
def assembleLines : List Line → Option (List Event)
  | [] => some []
  | l :: ls =>
    match l.assemble, assembleLines ls with
    | some es, some rest => some (es ++ rest)
    | _, _ => none

/-- The expansions of R82. -/
def Pseudo.expand : Pseudo → List Line
  | .configProfile clk psc baud =>
    [.wr .clkhz clk, .wr .psc psc, .wr .baud baud, .wr .ovrctl 0, .cmdConfigure]
  | .configProfileOvr clk psc baud ovr =>
    [.wr .clkhz clk, .wr .psc psc, .wr .baud baud, .wr .ovr ovr, .wr .ovrctl 1, .cmdConfigure]
  | .configTick tick psc => [.wr .psc psc, .wr .ovr tick, .wr .ovrctl 1, .cmdConfigure]
  | .poll => [.rd .take]
  | .check => [.rd .status]

end Sys2Proof.Machine
end

