-- ==== Sys2Proof/Safety.lean ====
section
/-! DEFINITION. The terms claims are stated in: the invariant of reachable states (spec/10_state.md R37), the marks a
run leaves that tick accounting counts (spec/42_ticksignal.md R181), and the premises on a host program. -/

namespace Sys2Proof.Machine

/-- R37, clause by clause. The upper bounds 65535 are the registers' widths. -/
abbrev Block.Consistent (b : Block) : Prop :=
  (b.en = true →
    1 ≤ b.cmp.toNat ∧ 1 ≤ b.apsc.toNat ∧ b.cnt.toNat < b.cmp.toNat ∧ b.pre.toNat < b.apsc.toNat) ∧
  (b.halted = false → b.cause = 0) ∧
  (b.halted = true → 1 ≤ b.cause.toNat ∧ b.cause.toNat ≤ 4)

/-- No BusError was recorded: the premise R201 has a claim about a host program take. -/
abbrev State.NoBusError (s : State) : Prop :=
  s.faults = []

/-- `k` steps of the machine, ending early at a step that does not go on. -/
def run : Nat → State → Host.Outcome State Fault Refusal
  | 0, s => .next s
  | k + 1, s =>
    match step s with
    | .next t => run k t
    | .fault r => .fault r
    | .refused r => .refused r

/-- The events of a run that tick accounting looks at. -/
inductive Mark where
  /-- A MATCH (R141). -/
  | tick
  /-- A Take(), with what it returned (R174). -/
  | take (returned : Bool)
  /-- A RESET (R230). -/
  | reset
deriving DecidableEq, Repr

/-- The word is a RD_TAKE transaction. -/
def isTake (w : Txn) : Bool :=
  decode w == .instr .rdTake

/-- The mark the next step of the machine leaves, if any. -/
def stepMark (s : State) : Option Mark :=
  match s.nextEvent with
  | .clk => if s.block.matchNow then some .tick else none
  | .host w => if isTake w then some (.take s.block.f) else none
  | .reset => some .reset
  | .narrow _ _ _ => none

/-- The marks of the next `k` steps, in order, up to a step that does not go on. -/
def marks : Nat → State → List Mark
  | 0, _ => []
  | k + 1, s =>
    (stepMark s).toList ++
      match step s with
      | .next t => marks k t
      | .fault _ => []
      | .refused _ => []

/-- M of R181: the MATCH events among marks. -/
def matchCount (ms : List Mark) : Nat :=
  ms.count .tick

/-- T of R181: the Take() calls among marks that returned 1. -/
def takenCount (ms : List Mark) : Nat :=
  ms.count (.take true)

/-- At least one Take() falls between every two consecutive MATCH events (R181 (c)): no MATCH follows another with
nothing between them. -/
def takeBetweenMatches : List Mark → Bool
  | .tick :: .tick :: _ => false
  | _ :: ms => takeBetweenMatches ms
  | [] => true

/-- A Take() that returns 1 comes before the next MATCH and before the end. -/
def takenNext : List Mark → Bool
  | [] => false
  | .take true :: _ => true
  | .take false :: ms => takenNext ms
  | .tick :: _ => false
  | .reset :: ms => takenNext ms

/-- Every MATCH is followed, before the next MATCH and before the end, by a Take() that returns 1 (R181 (d)). -/
def everyMatchTaken : List Mark → Bool
  | [] => true
  | .tick :: ms => takenNext ms && everyMatchTaken ms
  | .take _ :: ms => everyMatchTaken ms
  | .reset :: ms => everyMatchTaken ms

/-- The HOST word leaves an armed timer alone: it is neither command (R142, "until the next CONFIGURE, DISABLE"). -/
def leavesTimer (w : Txn) : Bool :=
  decode w != .instr .cmdConfigure && decode w != .instr .cmdDisable

/-- A CLK step, or a HOST transaction that leaves the timer alone. -/
def Event.isTraffic : Event → Bool
  | .clk => true
  | .host w => leavesTimer w
  | .reset => false
  | .narrow _ _ _ => false

/-- The reads without a side effect: every read but that of TAKE (R57). -/
def isPlainRead : Instr → Bool
  | .rdClkhz | .rdPsc | .rdBaud | .rdOvr | .rdOvrctl | .rdCalc | .rdStatus | .rdCmp | .rdCnt | .rdApsc => true
  | .wrClkhz _ | .wrPsc _ | .wrBaud _ | .wrOvr _ | .wrOvrctl _ | .cmdConfigure | .cmdDisable | .rdTake => false

/-- The writes of the profile registers (R14, R63). -/
def isProfileWrite : Instr → Bool
  | .wrClkhz _ | .wrPsc _ | .wrBaud _ | .wrOvr _ | .wrOvrctl _ => true
  | .rdClkhz | .rdPsc | .rdBaud | .rdOvr | .rdOvrctl | .rdCalc | .cmdConfigure | .cmdDisable | .rdStatus | .rdCmp
  | .rdCnt | .rdApsc | .rdTake => false

end Sys2Proof.Machine
end

