-- ==== Sys2Proof/Certificates/Slice0/Obligations.lean ====
section
/-! DEFINITION. The statements for the provers. Each docstring names the rule of spec/ it formalises. -/

open Sys2Proof Sys2Proof.Machine

-- ---- Reset ----

/-- R230: RESET, in any state, leaves every one of the 13 elements at 0 in one step, and so does the model's own
reset state. -/
def Obligations.ResetClearsEveryElement : Prop :=
  (∀ s : State, s.nextEvent = .reset → ∃ t, step s = .next t ∧
    t.block.clkhz = 0 ∧ t.block.psc = 0 ∧ t.block.baud = 0 ∧ t.block.ovr = 0 ∧ t.block.ovrEn = false ∧
    t.block.cmp = 0 ∧ t.block.apsc = 0 ∧ t.block.cnt = 0 ∧ t.block.pre = 0 ∧
    t.block.en = false ∧ t.block.halted = false ∧ t.block.cause = 0 ∧ t.block.f = false) ∧
  State.reset.block =
    { clkhz := 0, psc := 0, baud := 0, ovr := 0, ovrEn := false, cmp := 0, apsc := 0, cnt := 0, pre := 0,
      en := false, halted := false, cause := 0, f := false }

/-- R232: what the reads return right after RESET, and that a CONFIGURE then halts the block with PSC_INVALID. -/
def Obligations.ReadsRightAfterReset : Prop :=
  ∀ s : State, s.nextEvent = .reset → ∃ t, step s = .next t ∧
    exec .rdCalc t = .next { t with response := some (.data 0x80010000) } ∧
    exec .rdStatus t = .next { t with response := some (.data 0x00000000) } ∧
    exec .rdCmp t = .next { t with response := some (.data 0) } ∧
    exec .rdCnt t = .next { t with response := some (.data 0) } ∧
    exec .rdApsc t = .next { t with response := some (.data 0) } ∧
    exec .rdTake t = .next { t with response := some (.data 0) } ∧
    exec .cmdConfigure t =
      .next { t with block := { t.block with halted := true, cause := 1 }, response := some .ok }

-- ---- Profile registers ----

/-- R74: what each write takes from DATA, the bits above a field's width ignored; every write completes with OK and
changes nothing else. A CMD write's DATA is compared whole with the command codes. -/
def Obligations.WritesTakeTheirDataBits : Prop :=
  (∀ (d : Word) (s : State), exec (.wrClkhz d) s =
    .next { s with block := { s.block with clkhz := d }, response := some .ok }) ∧
  (∀ (d : Word) (s : State), exec (.wrOvr d) s =
    .next { s with block := { s.block with ovr := d }, response := some .ok }) ∧
  (∀ (d : Word) (s : State), exec (.wrPsc d) s =
    .next { s with block := { s.block with psc := BitVec.ofNat 16 (d.toNat % 65536) }, response := some .ok }) ∧
  (∀ (d : Word) (s : State), exec (.wrBaud d) s =
    .next { s with block := { s.block with baud := BitVec.ofNat 16 (d.toNat % 65536) }, response := some .ok }) ∧
  (∀ (d : Word) (s : State), exec (.wrOvrctl d) s =
    .next { s with block := { s.block with ovrEn := decide (d.toNat % 2 = 1) }, response := some .ok }) ∧
  (∀ d : Word, decode (writeTxn .cmd d) =
    if d.toNat = 1 then .instr .cmdConfigure
    else if d.toNat = 2 then .instr .cmdDisable else .illegal .unknownCommand)

/-- R75: the RDATA of every read, as a number, so that every reserved bit is 0; the plain reads change no state, and
the read of TAKE returns F as it was before the clear. -/
def Obligations.ReadsAssembleTheirRdata : Prop :=
  ∀ s : State,
    (∃ v, exec .rdClkhz s = .next { s with response := some (.data v) } ∧ v = s.block.clkhz) ∧
    (∃ v, exec .rdOvr s = .next { s with response := some (.data v) } ∧ v = s.block.ovr) ∧
    (∃ v, exec .rdPsc s = .next { s with response := some (.data v) } ∧ v.toNat = s.block.psc.toNat) ∧
    (∃ v, exec .rdBaud s = .next { s with response := some (.data v) } ∧ v.toNat = s.block.baud.toNat) ∧
    (∃ v, exec .rdCmp s = .next { s with response := some (.data v) } ∧ v.toNat = s.block.cmp.toNat) ∧
    (∃ v, exec .rdCnt s = .next { s with response := some (.data v) } ∧ v.toNat = s.block.cnt.toNat) ∧
    (∃ v, exec .rdApsc s = .next { s with response := some (.data v) } ∧ v.toNat = s.block.apsc.toNat) ∧
    (∃ v, exec .rdOvrctl s = .next { s with response := some (.data v) } ∧
      v.toNat = if s.block.ovrEn then 1 else 0) ∧
    (∃ v, exec .rdStatus s = .next { s with response := some (.data v) } ∧
      v.toNat = 4 * s.block.cause.toNat + (if s.block.halted then 2 else 0) + (if s.block.en then 1 else 0)) ∧
    (∃ v, exec .rdCalc s = .next { s with response := some (.data v) } ∧
      v.toNat = (if s.block.verdict.causeCode = 0 then 0 else 2 ^ 31) +
        2 ^ 16 * s.block.verdict.causeCode.toNat + s.block.verdict.tickValue.toNat) ∧
    (∃ v, exec .rdTake s =
        .next { s with block := { s.block with f := false }, response := some (.data v) } ∧
      v.toNat = if s.block.f then 1 else 0)

/-- R57: every read but that of TAKE leaves the block as it is, and doing it again changes nothing at all: the same
value is returned. -/
def Obligations.PlainReadsAreIdempotent : Prop :=
  ∀ (i : Instr) (s t : State), isPlainRead i = true → exec i s = .next t →
    t.block = s.block ∧ t.faults = s.faults ∧ t.pending = s.pending ∧ t.steps = s.steps ∧ exec i t = .next t

/-- The frame of the profile writes: each changes its own register of the block at most (R57, R63). -/
def Obligations.ProfileWriteFrame : Prop :=
  (∀ (d : Word) (s t : State), exec (.wrClkhz d) s = .next t →
    t.block = { s.block with clkhz := t.block.clkhz }) ∧
  (∀ (d : Word) (s t : State), exec (.wrPsc d) s = .next t → t.block = { s.block with psc := t.block.psc }) ∧
  (∀ (d : Word) (s t : State), exec (.wrBaud d) s = .next t → t.block = { s.block with baud := t.block.baud }) ∧
  (∀ (d : Word) (s t : State), exec (.wrOvr d) s = .next t → t.block = { s.block with ovr := t.block.ovr }) ∧
  (∀ (d : Word) (s t : State), exec (.wrOvrctl d) s = .next t →
    t.block = { s.block with ovrEn := t.block.ovrEn }) ∧
  (∀ (i : Instr) (s t : State), isProfileWrite i = true → exec i s = .next t →
    t.response = some .ok ∧ t.faults = s.faults ∧ t.pending = s.pending ∧ t.steps = s.steps)

/-- R63: a profile write never changes CMP, APSC, CNT, PRE, EN or F; the timer goes on counting against the active
registers: the write and a CLK step give the same machine in either order. It takes new values only at the next
successful CONFIGURE, so CMP and APSC change at no other step but RESET. -/
def Obligations.ProfileWriteLeavesRunningTimer : Prop :=
  (∀ (i : Instr) (s t : State), isProfileWrite i = true → exec i s = .next t →
    t.block.cmp = s.block.cmp ∧ t.block.apsc = s.block.apsc ∧ t.block.cnt = s.block.cnt ∧
    t.block.pre = s.block.pre ∧ t.block.en = s.block.en ∧ t.block.f = s.block.f) ∧
  (∀ (i : Instr) (s : State) (rest : List Event), isProfileWrite i = true → s.block.Consistent → ∃ t,
    run 2 { s with pending := .host (encode i) :: .clk :: rest } = .next t ∧
    run 2 { s with pending := .clk :: .host (encode i) :: rest } = .next t) ∧
  (∀ s t : State, step s = .next t → s.nextEvent ≠ .reset →
    (t.block.cmp ≠ s.block.cmp ∨ t.block.apsc ≠ s.block.apsc) →
    ∃ w n, s.nextEvent = .host w ∧ decode w = .instr .cmdConfigure ∧ s.block.halted = false ∧
      s.block.verdict = .tick n ∧ t.block.cmp = n ∧ t.block.apsc = s.block.psc)

/-- R109 and R238: the read of CALC right after a profile write sees the new value. -/
def Obligations.CalcSeesProfileWriteAtOnce : Prop :=
  ∀ (s : State) (d : Word),
    (∃ t, (∃ u, exec (.wrClkhz d) s = .next u ∧ exec .rdCalc u = .next t) ∧ t.response = some (.data
      (verdictRdata (tickCalc d s.block.psc s.block.baud s.block.ovr s.block.ovrEn)))) ∧
    (∃ t, (∃ u, exec (.wrPsc d) s = .next u ∧ exec .rdCalc u = .next t) ∧ t.response = some (.data
      (verdictRdata (tickCalc s.block.clkhz (BitVec.ofNat 16 d.toNat) s.block.baud s.block.ovr s.block.ovrEn)))) ∧
    (∃ t, (∃ u, exec (.wrBaud d) s = .next u ∧ exec .rdCalc u = .next t) ∧ t.response = some (.data
      (verdictRdata (tickCalc s.block.clkhz s.block.psc (BitVec.ofNat 16 d.toNat) s.block.ovr s.block.ovrEn)))) ∧
    (∃ t, (∃ u, exec (.wrOvr d) s = .next u ∧ exec .rdCalc u = .next t) ∧ t.response = some (.data
      (verdictRdata (tickCalc s.block.clkhz s.block.psc s.block.baud d s.block.ovrEn)))) ∧
    (∃ t, (∃ u, exec (.wrOvrctl d) s = .next u ∧ exec .rdCalc u = .next t) ∧ t.response = some (.data
      (verdictRdata (tickCalc s.block.clkhz s.block.psc s.block.baud s.block.ovr (decide (d.toNat % 2 = 1))))))

-- ---- The calculator ----

/-- R104, R105: the returned pair (tick, cause), case by case, in the order of the checks; R103: a tick count is
accepted exactly in 1 to 65535. -/
def Obligations.TickCalcReportsFirstFailingCheck : Prop :=
  ∀ (clkhz : Word) (psc baud : Half) (ovr : Word) (ovrEn : Bool) (v : Verdict),
    v = tickCalc clkhz psc baud ovr ovrEn →
    (psc = 0 → v.tickValue = 0 ∧ v.causeCode = 1) ∧
    (psc ≠ 0 → ovrEn = false → baud = 0 → v.tickValue = 0 ∧ v.causeCode = 2) ∧
    (∀ n : Nat, psc ≠ 0 →
      (ovrEn = true ∧ n = ovr.toNat ∨ ovrEn = false ∧ baud ≠ 0 ∧
        n = (2 * clkhz.toNat + psc.toNat * baud.toNat) / (2 * (psc.toNat * baud.toNat))) →
      (n = 0 → v.tickValue = 0 ∧ v.causeCode = 3) ∧
      (65535 < n → v.tickValue = 0 ∧ v.causeCode = 4) ∧
      (1 ≤ n → n ≤ 65535 → v.tickValue.toNat = n ∧ v.causeCode = 0))

/-- R102: the computed tick count is the one integer n with n - 1/2 <= clkhz / d < n + 1/2, so it is the nearest
integer, and a tie rounds up. -/
def Obligations.RoundsToNearestAndTieUp : Prop :=
  ∀ clkhz d n : Nat, 0 < d →
    (roundedRatio clkhz d = n ↔ (2 * n * d ≤ 2 * clkhz + d ∧ 2 * clkhz < 2 * n * d + d))

/-- R108: without the override a tick is within 1/2 of the ideal ratio, is the ratio exactly when d divides clkhz, and
the computed tick is monotone in each input. -/
def Obligations.TickIsWithinHalfAndMonotone : Prop :=
  (∀ (clkhz : Word) (psc baud : Half) (ovr : Word) (t : Half), tickCalc clkhz psc baud ovr false = .tick t →
    2 * t.toNat * (psc.toNat * baud.toNat) ≤ 2 * clkhz.toNat + psc.toNat * baud.toNat ∧
    2 * clkhz.toNat ≤ 2 * t.toNat * (psc.toNat * baud.toNat) + psc.toNat * baud.toNat ∧
    (t.toNat * (psc.toNat * baud.toNat) = clkhz.toNat ↔ psc.toNat * baud.toNat ∣ clkhz.toNat)) ∧
  (∀ c c' p p' b b' : Nat, 0 < p' → 0 < b' → c ≤ c' → p' ≤ p → b' ≤ b →
    roundedRatio c (p * b) ≤ roundedRatio c' (p' * b'))

/-- R107: no intermediate of TickCalc wraps in 34 bits, a 34-bit divider computes the rounded ratio exactly, and only
a checked result in 1 to 65535 becomes a tick. -/
def Obligations.ThirtyFourBitDividerIsExact : Prop :=
  ∀ (clkhz : Word) (psc baud : Half),
    psc.toNat * baud.toNat ≤ 4294836225 ∧
    2 * clkhz.toNat + psc.toNat * baud.toNat < 2 ^ 34 ∧
    2 * (psc.toNat * baud.toNat) < 2 ^ 33 ∧
    (psc ≠ 0 → baud ≠ 0 →
      (((2 : BitVec 34) * clkhz.setWidth 34 + psc.setWidth 34 * baud.setWidth 34) /
        ((2 : BitVec 34) * (psc.setWidth 34 * baud.setWidth 34))).toNat =
        roundedRatio clkhz.toNat (psc.toNat * baud.toNat)) ∧
    (∀ (ovr : Word) (ovrEn : Bool) (t : Half), tickCalc clkhz psc baud ovr ovrEn = .tick t →
      1 ≤ t.toNat ∧ t.toNat ≤ 65535 ∧
      t.toNat = if ovrEn then ovr.toNat else roundedRatio clkhz.toNat (psc.toNat * baud.toNat))

/-- R106: with the override present the computed value is ignored (neither CLKHZ nor BAUD matters), the override
passes the range check, and PSC is still checked. -/
def Obligations.OverrideTakesPrecedence : Prop :=
  ∀ (clkhz clkhz' : Word) (psc baud baud' : Half) (ovr : Word),
    tickCalc clkhz psc baud ovr true = tickCalc clkhz' psc baud' ovr true ∧
    (psc = 0 → tickCalc clkhz psc baud ovr true = .error .pscInvalid) ∧
    (psc ≠ 0 → ovr = 0 → tickCalc clkhz psc baud ovr true = .error .tickZero) ∧
    (psc ≠ 0 → 65535 < ovr.toNat → tickCalc clkhz psc baud ovr true = .error .tickOverflow) ∧
    (psc ≠ 0 → 1 ≤ ovr.toNat → ovr.toNat ≤ 65535 →
      tickCalc clkhz psc baud ovr true = .tick (BitVec.ofNat 16 ovr.toNat))

/-- R121, of the model's form of ClockConfig on integers: a negative prescaler, baud, clock or override is an error,
with or without an override; an accepted tick is the exact value, never wrapped; on the values the registers can hold
the form is TickCalc. That a negative clock's cause is TICK_ZERO, and which cause is reported where several inputs are
bad, is the model's choice (log entry 11), and so is that a prescaler, baud or clock above its register's width is taken
as it is (log entry 15). -/
def Obligations.IntegerClockConfigNeverWraps : Prop :=
  (∀ (clkhz psc baud : Int) (override : Option Int),
    (psc < 0 → clockConfigInt clkhz psc baud override = .error .pscInvalid) ∧
    (0 < psc → baud < 0 → clockConfigInt clkhz psc baud override = .error .baudZero) ∧
    (0 < psc → 0 ≤ baud → ∀ t, override = some t → t < 0 →
      clockConfigInt clkhz psc baud override = .error .tickZero) ∧
    (clkhz < 0 → ∃ c, clockConfigInt clkhz psc baud override = .error c) ∧
    (0 < psc → 0 ≤ baud → (override = none → 0 < baud) → clkhz < 0 →
      clockConfigInt clkhz psc baud override = .error .tickZero) ∧
    (∀ v, clockConfigInt clkhz psc baud override = .tick v →
      0 ≤ clkhz ∧ 1 ≤ psc ∧ 0 ≤ baud ∧ 1 ≤ (v.toNat : Int) ∧
      (∀ t, override = some t → (v.toNat : Int) = t) ∧
      (override = none → 1 ≤ baud ∧ (v.toNat : Int) = Int.fdiv (2 * clkhz + psc * baud) (2 * (psc * baud))))) ∧
  (∀ (clkhz : Word) (psc baud : Half) (ovr : Word) (ovrEn : Bool),
    tickCalc clkhz psc baud ovr ovrEn =
      clockConfigInt clkhz.toNat psc.toNat baud.toNat (if ovrEn then some (ovr.toNat : Int) else none))

-- ---- Commands ----

/-- R132 with R135: CONFIGURE completes with OK in each case: ignored while halted; a ConfigurationError writes HALTED
and CAUSE alone; success writes CNT, PRE, CMP, APSC and EN alone. Its exact word decodes to it. -/
def Obligations.ConfigureArmsOrHalts : Prop :=
  decode 0x9800000001 = .instr .cmdConfigure ∧
  ∀ s : State,
    (s.block.halted = true → exec .cmdConfigure s = .next { s with response := some .ok }) ∧
    (∀ c, s.block.halted = false → s.block.verdict = .error c → exec .cmdConfigure s =
      .next { s with block := { s.block with halted := true, cause := c.code }, response := some .ok }) ∧
    (∀ n, s.block.halted = false → s.block.verdict = .tick n → exec .cmdConfigure s =
      .next { s with
        block := { s.block with cnt := 0, pre := 0, cmp := n, apsc := s.block.psc, en := true },
        response := some .ok })

/-- R136: DISABLE clears EN, in every state, and nothing else. Its exact word decodes to it. -/
def Obligations.DisableClearsEnableAlone : Prop :=
  decode 0x9800000002 = .instr .cmdDisable ∧
  ∀ s : State, exec .cmdDisable s =
    .next { s with block := { s.block with en := false }, response := some .ok }

/-- R134: neither command writes F, so a tick pending before it is pending after it. The frame of the two commands:
the profile registers are unchanged too, and no fault is recorded. -/
def Obligations.CommandsLeaveFlagAndProfile : Prop :=
  ∀ (i : Instr) (s t : State), (i = .cmdConfigure ∨ i = .cmdDisable) → exec i s = .next t →
    t.block.f = s.block.f ∧ t.block.clkhz = s.block.clkhz ∧ t.block.psc = s.block.psc ∧
    t.block.baud = s.block.baud ∧ t.block.ovr = s.block.ovr ∧ t.block.ovrEn = s.block.ovrEn ∧
    t.faults = s.faults ∧ t.pending = s.pending ∧ t.steps = s.steps

/-- R138: no step but a successful CONFIGURE sets EN to 1. -/
def Obligations.OnlySuccessfulConfigureArms : Prop :=
  ∀ s t : State, step s = .next t → s.block.en = false → t.block.en = true →
    ∃ w n, s.nextEvent = .host w ∧ decode w = .instr .cmdConfigure ∧ s.block.halted = false ∧
      s.block.verdict = .tick n

/-- R137: DISABLE writes EN alone; then, whatever number of CLK steps come, CNT and PRE hold and no match happens; and
a CONFIGURE that succeeds does not resume from the held count. -/
def Obligations.DisableHoldsTheCount : Prop :=
  ∀ (s : State) (k : Nat) (rest : List Event),
    s.pending = .host 0x9800000002 :: (List.replicate k .clk ++ rest) →
    ∃ t, run (k + 1) s = .next t ∧ t.block = { s.block with en := false } ∧ marks (k + 1) s = [] ∧
      ∀ n, t.block.halted = false → t.block.verdict = .tick n →
        ∃ u, exec .cmdConfigure t = .next u ∧ u.block.cnt = 0 ∧ u.block.pre = 0 ∧ u.block.en = true

-- ---- The CLK step ----

/-- R140 with R141: a CLK step changes nothing while the timer does not run; while it runs it advances PRE, or returns
PRE to 0 and advances CNT, or returns both to 0 and sets F. For every state of the invariant of R37: outside it a sum
may not fit (log entry 5). -/
def Obligations.ClkStepAdvancesTimer : Prop :=
  ∀ s : State, s.nextEvent = .clk → s.block.Consistent → ∃ t, step s = .next t ∧
    ((s.block.en = false ∨ s.block.halted = true) → t.block = s.block) ∧
    (s.block.en = true → s.block.halted = false →
      (s.block.pre.toNat ≠ s.block.apsc.toNat - 1 →
        t.block = { s.block with pre := BitVec.ofNat 16 (s.block.pre.toNat + 1) }) ∧
      (s.block.pre.toNat = s.block.apsc.toNat - 1 → s.block.cnt.toNat ≠ s.block.cmp.toNat - 1 →
        t.block = { s.block with pre := 0, cnt := BitVec.ofNat 16 (s.block.cnt.toNat + 1) }) ∧
      (s.block.pre.toNat = s.block.apsc.toNat - 1 → s.block.cnt.toNat = s.block.cmp.toNat - 1 →
        t.block = { s.block with pre := 0, cnt := 0, f := true }))

/-- The frame of a CLK step (R140, R141, R208): PRE, CNT and F alone may change, F only to 1, in every state. -/
def Obligations.ClkFrame : Prop :=
  ∀ s t : State, s.nextEvent = .clk → step s = .next t →
    t.block = { s.block with pre := t.block.pre, cnt := t.block.cnt, f := t.block.f } ∧
    (s.block.f = true → t.block.f = true) ∧ t.response = s.response ∧ t.faults = s.faults

/-- R143, R144: after a successful CONFIGURE, with any HOST traffic but the commands among the CLK steps, j CLK steps
leave PRE and CNT at the digits of j, and the next CLK step is a MATCH exactly when its number j + 1 is a multiple of
APSC * CMP: so the first is number APSC * CMP, and they go on with no host action. The CONFIGURE itself is no match
and leaves F. -/
def Obligations.MatchesFallOnMultiplesOfThePeriod : Prop :=
  ∀ (s : State) (n : Half) (es rest : List Event),
    s.pending = .host 0x9800000001 :: (es ++ rest) → s.block.halted = false → s.block.verdict = .tick n →
    (∀ e ∈ es, e.isTraffic = true) →
    stepMark s = none ∧ (∃ u, step s = .next u ∧ u.block.f = s.block.f) ∧
    ∃ t, run (es.length + 1) s = .next t ∧
      t.block.en = true ∧ t.block.halted = false ∧ t.block.cmp = n ∧ t.block.apsc = s.block.psc ∧
      t.block.pre.toNat = es.count .clk % s.block.psc.toNat ∧
      t.block.cnt.toNat = es.count .clk / s.block.psc.toNat % n.toNat ∧
      (t.block.matchNow = true ↔ s.block.psc.toNat * n.toNat ∣ es.count .clk + 1)

/-- From R142: a run of j CLK steps after a successful CONFIGURE, with any HOST traffic but the commands among them,
holds exactly floor(j / (APSC * CMP)) MATCH events: no drift. -/
def Obligations.MatchCountIsStepsOverPeriod : Prop :=
  ∀ (s : State) (n : Half) (es rest : List Event),
    s.pending = .host 0x9800000001 :: (es ++ rest) → s.block.halted = false → s.block.verdict = .tick n →
    (∀ e ∈ es, e.isTraffic = true) →
    matchCount (marks (es.length + 1) s) = es.count .clk / (s.block.psc.toNat * n.toNat)

/-- From R139: DISABLE, CONFIGURE and k CLK steps leave CNT and PRE with the same values and match at the same steps,
whatever the two timers did before, where the profile is the same and TickCalc accepts it (log entry 14). -/
def Obligations.DisableConfigureIsIdempotent : Prop :=
  ∀ (s s' : State) (k : Nat) (rest rest' : List Event) (n : Half),
    s.pending = .host 0x9800000002 :: .host 0x9800000001 :: (List.replicate k .clk ++ rest) →
    s'.pending = .host 0x9800000002 :: .host 0x9800000001 :: (List.replicate k .clk ++ rest') →
    s.block.halted = false → s'.block.halted = false → s.block.verdict = .tick n →
    s'.block.clkhz = s.block.clkhz → s'.block.psc = s.block.psc → s'.block.baud = s.block.baud →
    s'.block.ovr = s.block.ovr → s'.block.ovrEn = s.block.ovrEn →
    ∃ t t', run (k + 2) s = .next t ∧ run (k + 2) s' = .next t' ∧
      t'.block.cnt = t.block.cnt ∧ t'.block.pre = t.block.pre ∧ marks (k + 2) s' = marks (k + 2) s

/-- From R207: a MATCH and a successful CONFIGURE in the same cycle. CLK first: F = 1 and the period restarts.
CONFIGURE first: F is unchanged and the new period's first step is counted (where the new period is longer than one
CLK step; where it is one step, that step is itself a MATCH, by R141). -/
def Obligations.SameCycleMatchAndConfigure : Prop :=
  ∀ (s : State) (n : Half) (rest : List Event), s.block.matchNow = true → s.block.verdict = .tick n →
    (∃ t, run 2 { s with pending := .clk :: .host 0x9800000001 :: rest } = .next t ∧
      t.block.f = true ∧ t.block.cnt = 0 ∧ t.block.pre = 0 ∧ t.block.cmp = n ∧ t.block.apsc = s.block.psc) ∧
    (∃ t, run 2 { s with pending := .host 0x9800000001 :: .clk :: rest } = .next t ∧
      t.block.f = (s.block.f || decide (s.block.psc.toNat * n.toNat = 1)) ∧
      t.block.pre.toNat = 1 % s.block.psc.toNat ∧ t.block.cnt.toNat = 1 / s.block.psc.toNat % n.toNat)

-- ---- Invariants ----

/-- R37 as an invariant: every step, of every agent, keeps it, from every state that meets it. -/
def Obligations.EveryStepKeepsConsistency : Prop :=
  ∀ s t : State, s.block.Consistent → step s = .next t → t.block.Consistent

/-- R37 at reset: the state after reset meets the invariant. -/
def Obligations.ResetIsConsistent : Prop :=
  State.reset.block.Consistent

/-- From R202 and R135: while HALTED = 1 no step but RESET clears it, CAUSE and the timer's state hold, CLK changes
nothing, CONFIGURE is answered OK and ignored, and EN is never set. -/
def Obligations.HaltedHoldsUntilReset : Prop :=
  ∀ s t : State, s.block.halted = true → s.nextEvent ≠ .reset → step s = .next t →
    t.block.halted = true ∧ t.block.cause = s.block.cause ∧ t.block.cmp = s.block.cmp ∧
    t.block.apsc = s.block.apsc ∧ t.block.cnt = s.block.cnt ∧ t.block.pre = s.block.pre ∧
    (t.block.en = true → s.block.en = true) ∧
    (s.nextEvent = .clk → t = { s with pending := s.pending.tail, steps := s.steps + 1 }) ∧
    (∀ w, s.nextEvent = .host w → decode w = .instr .cmdConfigure →
      t = { s with response := some .ok, pending := s.pending.tail, steps := s.steps + 1 })

/-- From R202: HALTED goes from 0 to 1 only in a CONFIGURE whose TickCalc fails, and that step writes HALTED and CAUSE
alone, CAUSE one of the codes 1 to 4 (R203). -/
def Obligations.OnlyConfigurationErrorHalts : Prop :=
  ∀ s t : State, s.block.halted = false → step s = .next t → t.block.halted = true →
    ∃ w c, s.nextEvent = .host w ∧ decode w = .instr .cmdConfigure ∧ s.block.verdict = .error c ∧
      t.block = { s.block with halted := true, cause := c.code } ∧
      1 ≤ t.block.cause.toNat ∧ t.block.cause.toNat ≤ 4

/-- From R202: from a halted block no run without a RESET holds a MATCH. -/
def Obligations.NoMatchWhileHalted : Prop :=
  ∀ (k : Nat) (s : State), s.block.halted = true → Mark.reset ∉ marks k s → Mark.tick ∉ marks k s

-- ---- The tick flag ----

/-- R171: only Set() writes 1 to F, only Take() and RESET write 0 to it, and each does. -/
def Obligations.OnlySetAndTakeWriteTheFlag : Prop :=
  ∀ s t : State, step s = .next t →
    (s.block.f = false → t.block.f = true → s.nextEvent = .clk ∧ s.block.matchNow = true) ∧
    (s.block.f = true → t.block.f = false →
      s.nextEvent = .reset ∨ ∃ w, s.nextEvent = .host w ∧ decode w = .instr .rdTake) ∧
    (s.nextEvent = .clk → s.block.matchNow = true → t.block.f = true) ∧
    (∀ w, s.nextEvent = .host w → decode w = .instr .rdTake → t.block.f = false) ∧
    (s.nextEvent = .reset → t.block.f = false)

/-- R173: a Set() that finds F = 1 leaves no trace: the step that follows gives the very same machine whether F was 0
or 1 before it. -/
def Obligations.CoalescedTickLeavesNoTrace : Prop :=
  ∀ s : State, s.nextEvent = .clk → s.block.matchNow = true → ∃ t,
    step { s with block := { s.block with f := true } } = .next t ∧
    step { s with block := { s.block with f := false } } = .next t ∧ t.block.f = true

/-- From R177: the table of Set and Take in the same cycle, both orders. -/
def Obligations.SameCycleSetAndTake : Prop :=
  ∀ (s : State) (rest : List Event), s.block.matchNow = true →
    (∃ t, run 2 { s with pending := .clk :: .host 0x2C00000000 :: rest } = .next t ∧
      t.response = some (.data 1) ∧ t.block.f = false) ∧
    (∃ t, run 2 { s with pending := .host 0x2C00000000 :: .clk :: rest } = .next t ∧
      t.response = some (.data (if s.block.f then 1 else 0)) ∧ t.block.f = true)

/-- From R175: two RD_TAKE reads back to back, with no step of any agent between them, return F and then 0, and
`irq_o` is 0 after the first. -/
def Obligations.SecondTakeReturnsZero : Prop :=
  ∀ s t u : State, exec .rdTake s = .next t → exec .rdTake t = .next u →
    t.response = some (.data (if s.block.f then 1 else 0)) ∧ t.block.irqO = false ∧
    u.response = some (.data 0) ∧ u.block = t.block

/-- From R175 and R171: after a RD_TAKE, whatever steps of the agents follow, as long as none of them is a MATCH,
`irq_o` stays 0 and a RD_TAKE returns 0. -/
def Obligations.TakeReturnsZeroUntilMatch : Prop :=
  ∀ (k : Nat) (s t u v : State), exec .rdTake s = .next t → run k t = .next u → Mark.tick ∉ marks k t →
    exec .rdTake u = .next v →
    u.block.irqO = false ∧ v.response = some (.data 0) ∧ v.block = u.block

/-- R181 (a), (b), from a state with F = 0: the Takes that returned 1 and the tick still pending are at most the
MATCH events, and at least one where there was a MATCH and no RESET wrote the flag (the premise of log entry 14). -/
def Obligations.TakesNeverExceedMatches : Prop :=
  ∀ (k : Nat) (s t : State), s.block.f = false → run k s = .next t →
    takenCount (marks k s) + t.block.f.toNat ≤ matchCount (marks k s) ∧
    (Mark.reset ∉ marks k s → 1 ≤ matchCount (marks k s) → 1 ≤ takenCount (marks k s) + t.block.f.toNat)

/-- R181 (c), (d), from a state with F = 0 and over a run with no RESET (log entry 14): with a Take between every two consecutive
MATCH events no tick is lost; with every MATCH answered by a Take that returns 1, T = M and no tick is pending. -/
def Obligations.NoTickIsLostInTime : Prop :=
  ∀ (k : Nat) (s t : State), s.block.f = false → run k s = .next t → Mark.reset ∉ marks k s →
    (takeBetweenMatches (marks k s) = true →
      takenCount (marks k s) + t.block.f.toNat = matchCount (marks k s)) ∧
    (everyMatchTaken (marks k s) = true →
      takenCount (marks k s) = matchCount (marks k s) ∧ t.block.f = false)

-- ---- Encoding ----

/-- The encoder and the decoder agree on every instruction, with every operand (R76). -/
def Obligations.DecodeOfEncode : Prop :=
  ∀ i : Instr, decode (encode i) = .instr i

/-- The other direction (R73, R76): a legal word is the encoding of what it decodes to, but for the DATA bits of a
read. -/
def Obligations.LegalWordIsItsEncoding : Prop :=
  ∀ (w : Txn) (i : Instr), decode w = .instr i →
    (w.getLsbD 39 = true → encode i = w) ∧ (w.getLsbD 39 = false → encode i = w &&& 0xFF00000000)

/-- R73: in a read DATA is ignored: words that agree on WE = 0 and OFF decode alike. -/
def Obligations.ReadIgnoresData : Prop :=
  ∀ w w' : Txn, w.toNat / 2 ^ 32 = w'.toNat / 2 ^ 32 → w.toNat / 2 ^ 39 = 0 → decode w = decode w'

/-- R84: every word lies in exactly one row of the opcode table, the row of what it decodes to, or in none and is
illegal. -/
def Obligations.EachWordHasOneRowOrIsIllegal : Prop :=
  ∀ w : Txn,
    (∃ i, decode w = .instr i ∧ opcodeTable.filter (fun r => r.covers w) = [rowOf i]) ∨
    (∃ c, decode w = .illegal c ∧ opcodeTable.filter (fun r => r.covers w) = [])

/-- R78, R200: the illegal words are exactly those of the items (a) to (e); each raises BusError, which changes no
state of the block and has its OFF and WE recorded once more, and no other word raises it. -/
def Obligations.BusErrorExactlyOnIllegalWords : Prop :=
  ∀ (s : State) (w : Txn) (we off data : Nat), s.nextEvent = .host w →
    we = w.toNat / 2 ^ 39 → off = w.toNat / 2 ^ 32 % 128 → data = w.toNat % 2 ^ 32 →
    ((off % 4 ≠ 0 ∨ 0x30 ≤ off ∨
        (we = 1 ∧ (off = 0x14 ∨ off = 0x1C ∨ off = 0x20 ∨ off = 0x24 ∨ off = 0x28 ∨ off = 0x2C)) ∨
        (we = 0 ∧ off = 0x18) ∨ (we = 1 ∧ off = 0x18 ∧ data ≠ 1 ∧ data ≠ 2)) →
      ∃ t, step s = .next t ∧ t.block = s.block ∧ t.response = some .busError ∧
        t.faults.count { off := BitVec.ofNat 7 off, we := decide (we = 1) } =
          s.faults.count { off := BitVec.ofNat 7 off, we := decide (we = 1) } + 1) ∧
    (¬ (off % 4 ≠ 0 ∨ 0x30 ≤ off ∨
        (we = 1 ∧ (off = 0x14 ∨ off = 0x1C ∨ off = 0x20 ∨ off = 0x24 ∨ off = 0x28 ∨ off = 0x2C)) ∨
        (we = 0 ∧ off = 0x18) ∨ (we = 1 ∧ off = 0x18 ∧ data ≠ 1 ∧ data ≠ 2)) →
      ∃ t, step s = .next t ∧ t.response ≠ some .busError ∧ t.faults = s.faults)

/-- Eight words written out from R76 to R78 (vectors V-E1, V-E3, V-E8, V-E19, V-E12, V-E18, V-E33 and V-E22 of
95_test_vectors.md, in the order below) decode to what they stand for. -/
def Obligations.SampleWordsDecode : Prop :=
  decode 0x8012345678 = .instr (.wrClkhz 0x12345678) ∧ decode 0x8400000100 = .instr (.wrPsc 256) ∧
  decode 0x0C00000000 = .instr .rdOvr ∧ decode 0x14DEADBEEF = .instr .rdCalc ∧
  decode 0x9800000001 = .instr .cmdConfigure ∧ decode 0x2C00000000 = .instr .rdTake ∧
  decode 0x9880000001 = .illegal .unknownCommand ∧ decode 0x3000000000 = .illegal .unmapped

-- ---- Steps, errors and the host interface ----

/-- A step runs the decoded instruction (R9, R58), through the model's event list (log entry 1): where the oldest pending event is a HOST word that decodes to i, the step is
exec of i on the machine with that event taken off and the step counted. -/
def Obligations.StepRunsDecodedInstruction : Prop :=
  ∀ (s : State) (w : Txn) (i : Instr) (rest : List Event), s.pending = .host w :: rest → decode w = .instr i →
    step s = exec i { s with pending := rest, steps := s.steps + 1 }

/-- From R9 and R56: every event of an agent completes, in every state, and takes one event off the model's list (log
entry 1); an 8- or 16-bit access alone does not, and is refused by name (R52, D35; log entry 6). -/
def Obligations.EveryAgentStepCompletes : Prop :=
  (∀ s : State, (∀ z we off, s.nextEvent ≠ .narrow z we off) →
    ∃ t, step s = .next t ∧ t.pending = s.pending.tail ∧ t.steps = s.steps + 1) ∧
  (∀ (s : State) (z : NarrowSize) (we : Bool) (off : Offset), s.nextEvent = .narrow z we off →
    step s = .refused (.narrowAccess z))

/-- From R201: each illegal word adds one entry, its OFF and WE, at the end of the fault history, also where the same
entry is there already, and changes no state of the block; every other step leaves the history as it is. That the
history is a list, oldest first, is the model's choice (log entry 3). -/
def Obligations.FaultHistoryOnlyGrows : Prop :=
  ∀ s t : State, step s = .next t →
    (∀ w c, s.nextEvent = .host w → decode w = .illegal c →
      t.faults = s.faults ++ [{ off := w.extractLsb' 32 7, we := w.getLsbD 39 }] ∧
      t.block = s.block ∧ t.response = some .busError) ∧
    ((∀ w c, s.nextEvent = .host w → decode w ≠ .illegal c) → t.faults = s.faults)

/-- From R50 and R72: the host address of an offset reaches that offset, and an address that is no offset's reaches
none, whatever BLOCK_BASE is (the model's address decoding, log entry 10). -/
def Obligations.HostAddressReachesOffset : Prop :=
  (∀ off : Offset, offsetOfAddress (hostAddress off) = some off) ∧
  (∀ a : Nat, (∀ off : Offset, a ≠ hostAddress off) → offsetOfAddress a = none)

/-- From R82 with R132: CONFIG_TICK arms the timer with the tick count and the prescaler given, from every state that
is not halted, and changes nothing else but the registers it writes. -/
def Obligations.ConfigTickArmsTimer : Prop :=
  ∀ tick psc : Nat, 1 ≤ tick → tick ≤ 65535 → 1 ≤ psc → psc ≤ 65535 →
    ∃ es, assembleLines (Pseudo.configTick tick psc).expand = some es ∧
      ∀ (s : State) (rest : List Event), s.pending = es ++ rest → s.block.halted = false →
        ∃ t, run es.length s = .next t ∧ t.pending = rest ∧ t.faults = s.faults ∧
          t.response = some .ok ∧
          t.block = { s.block with
            psc := BitVec.ofNat 16 psc, ovr := BitVec.ofNat 32 tick, ovrEn := true,
            cmp := BitVec.ofNat 16 tick, apsc := BitVec.ofNat 16 psc, cnt := 0, pre := 0, en := true }

/-- From R82 with R101, R102 and R132: CONFIG_PROFILE arms the timer with the rounded tick count, where that lies in
1 to 65535, from every state that is not halted. -/
def Obligations.ConfigProfileArmsTimer : Prop :=
  ∀ clk psc baud n : Nat, clk < 2 ^ 32 → 1 ≤ psc → psc ≤ 65535 → 1 ≤ baud → baud ≤ 65535 →
    n = (2 * clk + psc * baud) / (2 * (psc * baud)) → 1 ≤ n → n ≤ 65535 →
    ∃ es, assembleLines (Pseudo.configProfile clk psc baud).expand = some es ∧
      ∀ (s : State) (rest : List Event), s.pending = es ++ rest → s.block.halted = false →
        ∃ t, run es.length s = .next t ∧ t.pending = rest ∧ t.faults = s.faults ∧
          t.response = some .ok ∧
          t.block = { s.block with
            clkhz := BitVec.ofNat 32 clk, psc := BitVec.ofNat 16 psc, baud := BitVec.ofNat 16 baud,
            ovrEn := false, cmp := BitVec.ofNat 16 n, apsc := BitVec.ofNat 16 psc, cnt := 0, pre := 0, en := true }
end

