-- ==== Sys2Proof/Laws/Decode.lean ====
section
/-! SUPPORT. The fields of a transaction put together from fields, a word as its fields put together, and what the
register map says. -/

namespace Sys2Proof

/-- Bit by bit, a transaction put together from fields: DATA, then OFF, then WE (R70). -/
theorem getLsbD_mkTxn (we : Bool) (off : Offset) (d : Word) (i : Nat) :
    (mkTxn we off d).getLsbD i =
      if i < 32 then d.getLsbD i
      else if i - 32 < 7 then off.getLsbD (i - 32) else (BitVec.ofBool we).getLsbD (i - 32 - 7) := by
  show (BitVec.ofBool we ++ off ++ d : BitVec (1 + 7 + 32)).getLsbD i = _
  rw [BitVec.getLsbD_append, BitVec.getLsbD_append]

@[simp] theorem txnWe_mkTxn (we : Bool) (off : Offset) (d : Word) : txnWe (mkTxn we off d) = we := by
  rw [txnWe, getLsbD_mkTxn]; cases we <;> simp

@[simp] theorem txnOff_mkTxn (we : Bool) (off : Offset) (d : Word) : txnOff (mkTxn we off d) = off := by
  ext i h
  rw [txnOff, BitVec.getElem_extractLsb', getLsbD_mkTxn]
  simp [h]

@[simp] theorem txnData_mkTxn (we : Bool) (off : Offset) (d : Word) : txnData (mkTxn we off d) = d := by
  ext i h
  rw [txnData, BitVec.getElem_extractLsb', getLsbD_mkTxn]
  simp [h]

/-- A word is its three fields put together (R70). -/
theorem mkTxn_fields (w : Txn) : mkTxn (txnWe w) (txnOff w) (txnData w) = w := by
  apply BitVec.eq_of_getLsbD_eq
  intro i h
  rw [getLsbD_mkTxn, txnOff, txnData, BitVec.getLsbD_extractLsb', BitVec.getLsbD_extractLsb']
  split
  · simp [*]
  · split
    · simp [*, show 32 + (i - 32) = i by omega]
    · have : i = 39 := by omega
      subst this
      rw [txnWe]
      cases w.getLsbD 39 <;> simp

@[simp] theorem decode_mkTxn (we : Bool) (off : Offset) (d : Word) :
    decode (mkTxn we off d) = decodeFields we off d := by
  simp [decode]

/-- The offset of a register selects that register (R51, R72). -/
theorem decodeFields_offset (we : Bool) (r : Reg) (d : Word) :
    decodeFields we r.offset d = if we then decodeWrite r d else decodeRead r := by
  cases r <;> rfl

end Sys2Proof
end

