-- ==== Sys2Proof/Laws/State.lean ====
section
/-! SUPPORT. One lemma per field per update of the state, so that no proof unfolds a record update. -/

namespace Sys2Proof.Machine

section

variable (b : Block) (s : State)

@[simp] theorem Block.setClkhz_clkhz (v : Word) : (b.setClkhz v).clkhz = v := rfl
@[simp] theorem Block.setClkhz_psc (v : Word) : (b.setClkhz v).psc = b.psc := rfl
@[simp] theorem Block.setClkhz_baud (v : Word) : (b.setClkhz v).baud = b.baud := rfl
@[simp] theorem Block.setClkhz_ovr (v : Word) : (b.setClkhz v).ovr = b.ovr := rfl
@[simp] theorem Block.setClkhz_ovrEn (v : Word) : (b.setClkhz v).ovrEn = b.ovrEn := rfl
@[simp] theorem Block.setClkhz_cmp (v : Word) : (b.setClkhz v).cmp = b.cmp := rfl
@[simp] theorem Block.setClkhz_apsc (v : Word) : (b.setClkhz v).apsc = b.apsc := rfl
@[simp] theorem Block.setClkhz_cnt (v : Word) : (b.setClkhz v).cnt = b.cnt := rfl
@[simp] theorem Block.setClkhz_pre (v : Word) : (b.setClkhz v).pre = b.pre := rfl
@[simp] theorem Block.setClkhz_en (v : Word) : (b.setClkhz v).en = b.en := rfl
@[simp] theorem Block.setClkhz_halted (v : Word) : (b.setClkhz v).halted = b.halted := rfl
@[simp] theorem Block.setClkhz_cause (v : Word) : (b.setClkhz v).cause = b.cause := rfl
@[simp] theorem Block.setClkhz_f (v : Word) : (b.setClkhz v).f = b.f := rfl

@[simp] theorem Block.setPsc_clkhz (v : Half) : (b.setPsc v).clkhz = b.clkhz := rfl
@[simp] theorem Block.setPsc_psc (v : Half) : (b.setPsc v).psc = v := rfl
@[simp] theorem Block.setPsc_baud (v : Half) : (b.setPsc v).baud = b.baud := rfl
@[simp] theorem Block.setPsc_ovr (v : Half) : (b.setPsc v).ovr = b.ovr := rfl
@[simp] theorem Block.setPsc_ovrEn (v : Half) : (b.setPsc v).ovrEn = b.ovrEn := rfl
@[simp] theorem Block.setPsc_cmp (v : Half) : (b.setPsc v).cmp = b.cmp := rfl
@[simp] theorem Block.setPsc_apsc (v : Half) : (b.setPsc v).apsc = b.apsc := rfl
@[simp] theorem Block.setPsc_cnt (v : Half) : (b.setPsc v).cnt = b.cnt := rfl
@[simp] theorem Block.setPsc_pre (v : Half) : (b.setPsc v).pre = b.pre := rfl
@[simp] theorem Block.setPsc_en (v : Half) : (b.setPsc v).en = b.en := rfl
@[simp] theorem Block.setPsc_halted (v : Half) : (b.setPsc v).halted = b.halted := rfl
@[simp] theorem Block.setPsc_cause (v : Half) : (b.setPsc v).cause = b.cause := rfl
@[simp] theorem Block.setPsc_f (v : Half) : (b.setPsc v).f = b.f := rfl

@[simp] theorem Block.setBaud_clkhz (v : Half) : (b.setBaud v).clkhz = b.clkhz := rfl
@[simp] theorem Block.setBaud_psc (v : Half) : (b.setBaud v).psc = b.psc := rfl
@[simp] theorem Block.setBaud_baud (v : Half) : (b.setBaud v).baud = v := rfl
@[simp] theorem Block.setBaud_ovr (v : Half) : (b.setBaud v).ovr = b.ovr := rfl
@[simp] theorem Block.setBaud_ovrEn (v : Half) : (b.setBaud v).ovrEn = b.ovrEn := rfl
@[simp] theorem Block.setBaud_cmp (v : Half) : (b.setBaud v).cmp = b.cmp := rfl
@[simp] theorem Block.setBaud_apsc (v : Half) : (b.setBaud v).apsc = b.apsc := rfl
@[simp] theorem Block.setBaud_cnt (v : Half) : (b.setBaud v).cnt = b.cnt := rfl
@[simp] theorem Block.setBaud_pre (v : Half) : (b.setBaud v).pre = b.pre := rfl
@[simp] theorem Block.setBaud_en (v : Half) : (b.setBaud v).en = b.en := rfl
@[simp] theorem Block.setBaud_halted (v : Half) : (b.setBaud v).halted = b.halted := rfl
@[simp] theorem Block.setBaud_cause (v : Half) : (b.setBaud v).cause = b.cause := rfl
@[simp] theorem Block.setBaud_f (v : Half) : (b.setBaud v).f = b.f := rfl

@[simp] theorem Block.setOvr_clkhz (v : Word) : (b.setOvr v).clkhz = b.clkhz := rfl
@[simp] theorem Block.setOvr_psc (v : Word) : (b.setOvr v).psc = b.psc := rfl
@[simp] theorem Block.setOvr_baud (v : Word) : (b.setOvr v).baud = b.baud := rfl
@[simp] theorem Block.setOvr_ovr (v : Word) : (b.setOvr v).ovr = v := rfl
@[simp] theorem Block.setOvr_ovrEn (v : Word) : (b.setOvr v).ovrEn = b.ovrEn := rfl
@[simp] theorem Block.setOvr_cmp (v : Word) : (b.setOvr v).cmp = b.cmp := rfl
@[simp] theorem Block.setOvr_apsc (v : Word) : (b.setOvr v).apsc = b.apsc := rfl
@[simp] theorem Block.setOvr_cnt (v : Word) : (b.setOvr v).cnt = b.cnt := rfl
@[simp] theorem Block.setOvr_pre (v : Word) : (b.setOvr v).pre = b.pre := rfl
@[simp] theorem Block.setOvr_en (v : Word) : (b.setOvr v).en = b.en := rfl
@[simp] theorem Block.setOvr_halted (v : Word) : (b.setOvr v).halted = b.halted := rfl
@[simp] theorem Block.setOvr_cause (v : Word) : (b.setOvr v).cause = b.cause := rfl
@[simp] theorem Block.setOvr_f (v : Word) : (b.setOvr v).f = b.f := rfl

@[simp] theorem Block.setOvrEn_clkhz (v : Bool) : (b.setOvrEn v).clkhz = b.clkhz := rfl
@[simp] theorem Block.setOvrEn_psc (v : Bool) : (b.setOvrEn v).psc = b.psc := rfl
@[simp] theorem Block.setOvrEn_baud (v : Bool) : (b.setOvrEn v).baud = b.baud := rfl
@[simp] theorem Block.setOvrEn_ovr (v : Bool) : (b.setOvrEn v).ovr = b.ovr := rfl
@[simp] theorem Block.setOvrEn_ovrEn (v : Bool) : (b.setOvrEn v).ovrEn = v := rfl
@[simp] theorem Block.setOvrEn_cmp (v : Bool) : (b.setOvrEn v).cmp = b.cmp := rfl
@[simp] theorem Block.setOvrEn_apsc (v : Bool) : (b.setOvrEn v).apsc = b.apsc := rfl
@[simp] theorem Block.setOvrEn_cnt (v : Bool) : (b.setOvrEn v).cnt = b.cnt := rfl
@[simp] theorem Block.setOvrEn_pre (v : Bool) : (b.setOvrEn v).pre = b.pre := rfl
@[simp] theorem Block.setOvrEn_en (v : Bool) : (b.setOvrEn v).en = b.en := rfl
@[simp] theorem Block.setOvrEn_halted (v : Bool) : (b.setOvrEn v).halted = b.halted := rfl
@[simp] theorem Block.setOvrEn_cause (v : Bool) : (b.setOvrEn v).cause = b.cause := rfl
@[simp] theorem Block.setOvrEn_f (v : Bool) : (b.setOvrEn v).f = b.f := rfl

@[simp] theorem Block.setCnt_clkhz (v : Half) : (b.setCnt v).clkhz = b.clkhz := rfl
@[simp] theorem Block.setCnt_psc (v : Half) : (b.setCnt v).psc = b.psc := rfl
@[simp] theorem Block.setCnt_baud (v : Half) : (b.setCnt v).baud = b.baud := rfl
@[simp] theorem Block.setCnt_ovr (v : Half) : (b.setCnt v).ovr = b.ovr := rfl
@[simp] theorem Block.setCnt_ovrEn (v : Half) : (b.setCnt v).ovrEn = b.ovrEn := rfl
@[simp] theorem Block.setCnt_cmp (v : Half) : (b.setCnt v).cmp = b.cmp := rfl
@[simp] theorem Block.setCnt_apsc (v : Half) : (b.setCnt v).apsc = b.apsc := rfl
@[simp] theorem Block.setCnt_cnt (v : Half) : (b.setCnt v).cnt = v := rfl
@[simp] theorem Block.setCnt_pre (v : Half) : (b.setCnt v).pre = b.pre := rfl
@[simp] theorem Block.setCnt_en (v : Half) : (b.setCnt v).en = b.en := rfl
@[simp] theorem Block.setCnt_halted (v : Half) : (b.setCnt v).halted = b.halted := rfl
@[simp] theorem Block.setCnt_cause (v : Half) : (b.setCnt v).cause = b.cause := rfl
@[simp] theorem Block.setCnt_f (v : Half) : (b.setCnt v).f = b.f := rfl

@[simp] theorem Block.setPre_clkhz (v : Half) : (b.setPre v).clkhz = b.clkhz := rfl
@[simp] theorem Block.setPre_psc (v : Half) : (b.setPre v).psc = b.psc := rfl
@[simp] theorem Block.setPre_baud (v : Half) : (b.setPre v).baud = b.baud := rfl
@[simp] theorem Block.setPre_ovr (v : Half) : (b.setPre v).ovr = b.ovr := rfl
@[simp] theorem Block.setPre_ovrEn (v : Half) : (b.setPre v).ovrEn = b.ovrEn := rfl
@[simp] theorem Block.setPre_cmp (v : Half) : (b.setPre v).cmp = b.cmp := rfl
@[simp] theorem Block.setPre_apsc (v : Half) : (b.setPre v).apsc = b.apsc := rfl
@[simp] theorem Block.setPre_cnt (v : Half) : (b.setPre v).cnt = b.cnt := rfl
@[simp] theorem Block.setPre_pre (v : Half) : (b.setPre v).pre = v := rfl
@[simp] theorem Block.setPre_en (v : Half) : (b.setPre v).en = b.en := rfl
@[simp] theorem Block.setPre_halted (v : Half) : (b.setPre v).halted = b.halted := rfl
@[simp] theorem Block.setPre_cause (v : Half) : (b.setPre v).cause = b.cause := rfl
@[simp] theorem Block.setPre_f (v : Half) : (b.setPre v).f = b.f := rfl

@[simp] theorem Block.disarm_clkhz : (b.disarm).clkhz = b.clkhz := rfl
@[simp] theorem Block.disarm_psc : (b.disarm).psc = b.psc := rfl
@[simp] theorem Block.disarm_baud : (b.disarm).baud = b.baud := rfl
@[simp] theorem Block.disarm_ovr : (b.disarm).ovr = b.ovr := rfl
@[simp] theorem Block.disarm_ovrEn : (b.disarm).ovrEn = b.ovrEn := rfl
@[simp] theorem Block.disarm_cmp : (b.disarm).cmp = b.cmp := rfl
@[simp] theorem Block.disarm_apsc : (b.disarm).apsc = b.apsc := rfl
@[simp] theorem Block.disarm_cnt : (b.disarm).cnt = b.cnt := rfl
@[simp] theorem Block.disarm_pre : (b.disarm).pre = b.pre := rfl
@[simp] theorem Block.disarm_en : (b.disarm).en = false := rfl
@[simp] theorem Block.disarm_halted : (b.disarm).halted = b.halted := rfl
@[simp] theorem Block.disarm_cause : (b.disarm).cause = b.cause := rfl
@[simp] theorem Block.disarm_f : (b.disarm).f = b.f := rfl

@[simp] theorem Block.arm_clkhz (t : Half) : (b.arm t).clkhz = b.clkhz := rfl
@[simp] theorem Block.arm_psc (t : Half) : (b.arm t).psc = b.psc := rfl
@[simp] theorem Block.arm_baud (t : Half) : (b.arm t).baud = b.baud := rfl
@[simp] theorem Block.arm_ovr (t : Half) : (b.arm t).ovr = b.ovr := rfl
@[simp] theorem Block.arm_ovrEn (t : Half) : (b.arm t).ovrEn = b.ovrEn := rfl
@[simp] theorem Block.arm_cmp (t : Half) : (b.arm t).cmp = t := rfl
@[simp] theorem Block.arm_apsc (t : Half) : (b.arm t).apsc = b.psc := rfl
@[simp] theorem Block.arm_cnt (t : Half) : (b.arm t).cnt = 0 := rfl
@[simp] theorem Block.arm_pre (t : Half) : (b.arm t).pre = 0 := rfl
@[simp] theorem Block.arm_en (t : Half) : (b.arm t).en = true := rfl
@[simp] theorem Block.arm_halted (t : Half) : (b.arm t).halted = b.halted := rfl
@[simp] theorem Block.arm_cause (t : Half) : (b.arm t).cause = b.cause := rfl
@[simp] theorem Block.arm_f (t : Half) : (b.arm t).f = b.f := rfl

@[simp] theorem Block.configurationError_clkhz (c : Cause) : (b.configurationError c).clkhz = b.clkhz := rfl
@[simp] theorem Block.configurationError_psc (c : Cause) : (b.configurationError c).psc = b.psc := rfl
@[simp] theorem Block.configurationError_baud (c : Cause) : (b.configurationError c).baud = b.baud := rfl
@[simp] theorem Block.configurationError_ovr (c : Cause) : (b.configurationError c).ovr = b.ovr := rfl
@[simp] theorem Block.configurationError_ovrEn (c : Cause) : (b.configurationError c).ovrEn = b.ovrEn := rfl
@[simp] theorem Block.configurationError_cmp (c : Cause) : (b.configurationError c).cmp = b.cmp := rfl
@[simp] theorem Block.configurationError_apsc (c : Cause) : (b.configurationError c).apsc = b.apsc := rfl
@[simp] theorem Block.configurationError_cnt (c : Cause) : (b.configurationError c).cnt = b.cnt := rfl
@[simp] theorem Block.configurationError_pre (c : Cause) : (b.configurationError c).pre = b.pre := rfl
@[simp] theorem Block.configurationError_en (c : Cause) : (b.configurationError c).en = b.en := rfl
@[simp] theorem Block.configurationError_halted (c : Cause) : (b.configurationError c).halted = true := rfl
@[simp] theorem Block.configurationError_cause (c : Cause) : (b.configurationError c).cause = c.code := rfl
@[simp] theorem Block.configurationError_f (c : Cause) : (b.configurationError c).f = b.f := rfl

@[simp] theorem Block.setFlag_clkhz : (b.setFlag).clkhz = b.clkhz := rfl
@[simp] theorem Block.setFlag_psc : (b.setFlag).psc = b.psc := rfl
@[simp] theorem Block.setFlag_baud : (b.setFlag).baud = b.baud := rfl
@[simp] theorem Block.setFlag_ovr : (b.setFlag).ovr = b.ovr := rfl
@[simp] theorem Block.setFlag_ovrEn : (b.setFlag).ovrEn = b.ovrEn := rfl
@[simp] theorem Block.setFlag_cmp : (b.setFlag).cmp = b.cmp := rfl
@[simp] theorem Block.setFlag_apsc : (b.setFlag).apsc = b.apsc := rfl
@[simp] theorem Block.setFlag_cnt : (b.setFlag).cnt = b.cnt := rfl
@[simp] theorem Block.setFlag_pre : (b.setFlag).pre = b.pre := rfl
@[simp] theorem Block.setFlag_en : (b.setFlag).en = b.en := rfl
@[simp] theorem Block.setFlag_halted : (b.setFlag).halted = b.halted := rfl
@[simp] theorem Block.setFlag_cause : (b.setFlag).cause = b.cause := rfl
@[simp] theorem Block.setFlag_f : (b.setFlag).f = true := rfl

@[simp] theorem Block.clearFlag_clkhz : (b.clearFlag).clkhz = b.clkhz := rfl
@[simp] theorem Block.clearFlag_psc : (b.clearFlag).psc = b.psc := rfl
@[simp] theorem Block.clearFlag_baud : (b.clearFlag).baud = b.baud := rfl
@[simp] theorem Block.clearFlag_ovr : (b.clearFlag).ovr = b.ovr := rfl
@[simp] theorem Block.clearFlag_ovrEn : (b.clearFlag).ovrEn = b.ovrEn := rfl
@[simp] theorem Block.clearFlag_cmp : (b.clearFlag).cmp = b.cmp := rfl
@[simp] theorem Block.clearFlag_apsc : (b.clearFlag).apsc = b.apsc := rfl
@[simp] theorem Block.clearFlag_cnt : (b.clearFlag).cnt = b.cnt := rfl
@[simp] theorem Block.clearFlag_pre : (b.clearFlag).pre = b.pre := rfl
@[simp] theorem Block.clearFlag_en : (b.clearFlag).en = b.en := rfl
@[simp] theorem Block.clearFlag_halted : (b.clearFlag).halted = b.halted := rfl
@[simp] theorem Block.clearFlag_cause : (b.clearFlag).cause = b.cause := rfl
@[simp] theorem Block.clearFlag_f : (b.clearFlag).f = false := rfl

@[simp] theorem Block.take_fst : b.take.1 = b.f := rfl
@[simp] theorem Block.take_snd : b.take.2 = b.clearFlag := rfl
@[simp] theorem Block.irqO_eq : b.irqO = b.f := rfl

@[simp] theorem State.advance_block : s.advance.block = s.block := rfl
@[simp] theorem State.advance_response : s.advance.response = s.response := rfl
@[simp] theorem State.advance_faults : s.advance.faults = s.faults := rfl
@[simp] theorem State.advance_pending : s.advance.pending = s.pending.tail := rfl
@[simp] theorem State.advance_steps : s.advance.steps = s.steps + 1 := rfl

end

end Sys2Proof.Machine
end

