-- ==== Sys2Proof/Laws/Ops.lean ====
section
/-! SUPPORT. What each shared operation can do, said once: the completions, the calculator's verdict, the increment,
CONFIGURE and the CLK step. -/

namespace Sys2Proof.Machine

@[simp] theorem finishWrite_eq (b : Block) (s : State) :
    finishWrite b s = .next { s with block := b, response := some .ok } := rfl

@[simp] theorem finishRead_eq (v : Word) (b : Block) (s : State) :
    finishRead v b s = .next { s with block := b, response := some (.data v) } := rfl

@[simp] theorem busError_eq (off : Offset) (we : Bool) (s : State) :
    busError off we s =
      .next { s with response := some .busError, faults := s.faults ++ [{ off := off, we := we }] } := rfl

@[simp] theorem resetEvent_eq (s : State) : resetEvent s = .next { s with block := Block.reset } := rfl

@[simp] theorem clkEvent_eq (s : State) :
    clkEvent s = .next { s with block := s.block.clk (Config.freeSum s.steps) } := rfl

/-- A sum that fits is stored exactly (R11). -/
theorem increment_of_fits {v : Half} (free : Half) (h : v.toNat + 1 < 2 ^ 16) :
    increment free v = BitVec.ofNat 16 (v.toNat + 1) := by
  rw [increment, if_pos h]
  apply BitVec.eq_of_toNat_eq
  simp [BitVec.toNat_add]

theorem increment_toNat {v : Half} (free : Half) (h : v.toNat + 1 < 2 ^ 16) :
    (increment free v).toNat = v.toNat + 1 := by
  rw [increment_of_fits free h, BitVec.toNat_ofNat, Nat.mod_eq_of_lt h]

/-- The range check, case by case (R103). -/
theorem rangeCheck_cases (t : Nat) :
    (t = 0 ∧ rangeCheck t = .error .tickZero) ∨
    (1 ≤ t ∧ t ≤ 65535 ∧ rangeCheck t = .tick (BitVec.ofNat 16 t)) ∨
    (65535 < t ∧ rangeCheck t = .error .tickOverflow) := by
  unfold rangeCheck tickMax
  split
  · exact .inl ⟨‹_›, rfl⟩
  · split
    · exact .inr (.inr ⟨‹_›, rfl⟩)
    · exact .inr (.inl ⟨by omega, by omega, rfl⟩)

/-- A tick that passes the range check is the number checked, in 1 to 65535. -/
theorem rangeCheck_tick {n : Nat} {t : Half} (h : rangeCheck n = .tick t) :
    t.toNat = n ∧ 1 ≤ n ∧ n ≤ 65535 := by
  rcases rangeCheck_cases n with ⟨_, e⟩ | ⟨h1, h2, e⟩ | ⟨_, e⟩
  · rw [e] at h; cases h
  · rw [e] at h
    cases h
    exact ⟨by rw [BitVec.toNat_ofNat]; omega, h1, h2⟩
  · rw [e] at h; cases h

/-- Where TickCalc gives a tick: the prescaler is not 0, and the tick passed the range check (R104). -/
theorem tickCalc_tick {clkhz : Word} {psc baud : Half} {ovr : Word} {ovrEn : Bool} {t : Half}
    (h : tickCalc clkhz psc baud ovr ovrEn = .tick t) :
    psc ≠ 0 ∧
      ((ovrEn = true ∧ rangeCheck ovr.toNat = .tick t) ∨
       (ovrEn = false ∧ baud ≠ 0 ∧
         rangeCheck (roundedRatio clkhz.toNat (psc.toNat * baud.toNat)) = .tick t)) := by
  unfold tickCalc at h
  split at h
  · cases h
  · refine ⟨‹_›, ?_⟩
    split at h
    · exact .inl ⟨‹_›, h⟩
    · split at h
      · cases h
      · exact .inr ⟨by simp_all, ‹_›, h⟩

/-- A verdict's tick lies in 1 to 65535 and comes with a prescaler that is not 0. -/
theorem verdict_tick {b : Block} {t : Half} (h : b.verdict = .tick t) : 1 ≤ t.toNat ∧ 1 ≤ b.psc.toNat := by
  have ⟨hp, ht⟩ := tickCalc_tick h
  have : b.psc.toNat ≠ 0 := fun e => hp (BitVec.eq_of_toNat_eq (by simpa using e))
  refine ⟨?_, by omega⟩
  rcases ht with ⟨_, hr⟩ | ⟨_, _, hr⟩ <;> have := rangeCheck_tick hr <;> omega

/-- CONFIGURE, case by case (R132, R135). -/
theorem configure_cases (b : Block) :
    (b.halted = true ∧ b.configure = b) ∨
    (∃ c, b.halted = false ∧ b.verdict = .error c ∧ b.configure = b.configurationError c) ∨
    (∃ t, b.halted = false ∧ b.verdict = .tick t ∧ b.configure = b.arm t) := by
  unfold Block.configure
  split
  · exact .inl ⟨‹_›, rfl⟩
  · split
    · exact .inr (.inl ⟨_, by simp_all, ‹_›, rfl⟩)
    · exact .inr (.inr ⟨_, by simp_all, ‹_›, rfl⟩)

/-- A CLK step, case by case (R140, R141). -/
theorem clk_cases (free : Half) (b : Block) :
    (b.running = false ∧ b.clk free = b) ∨
    (b.running = true ∧ b.preAtEnd = false ∧ b.clk free = b.setPre (increment free b.pre)) ∨
    (b.running = true ∧ b.preAtEnd = true ∧ b.cntAtEnd = false ∧
      b.clk free = (b.setPre 0).setCnt (increment free b.cnt)) ∨
    (b.matchNow = true ∧ b.clk free = ((b.setPre 0).setCnt 0).setFlag) := by
  unfold Block.clk Block.pTick Block.matchNow
  cases hr : b.running
  · exact .inl ⟨rfl, by simp⟩
  · cases hp : b.preAtEnd
    · exact .inr (.inl ⟨rfl, rfl, by simp⟩)
    · have hc' : (b.setPre 0#16).cntAtEnd = b.cntAtEnd := rfl
      cases hc : b.cntAtEnd
      · exact .inr (.inr (.inl ⟨rfl, rfl, rfl, by simp [hc', hc]⟩))
      · exact .inr (.inr (.inr ⟨rfl, by simp [hc', hc]⟩))

end Sys2Proof.Machine
end

