-- ==== Sys2Proof/Laws/PerInstr.lean ====
section
/-! SUPPORT. The per-instruction family RowEncoding: an instruction's word lies in the instruction's own row of
spec/opcode_table.json, and passes the four checks of R76. -/

namespace Sys2Proof.Laws.RowEncoding

/-- The word of the instruction lies in its table row and is a well-formed transaction (R76). -/
def Statement (i : Instr) : Prop :=
  (rowOf i).covers (encode i) = true ∧ (txnRequest (encode i)).wellFormed = true

/-- A word with the WE and OFF of a row whose DATA is "any" or x lies in that row. -/
theorem covers_anyData (m : String) (we : Bool) (off : Offset) (d : Word) :
    Row.covers ⟨m, mkTxn we off 0, anyData⟩ (mkTxn we off d) = true := by
  unfold Row.covers
  rw [beq_iff_eq]
  apply BitVec.eq_of_getLsbD_eq
  intro i h
  rw [BitVec.getLsbD_and, getLsbD_mkTxn, getLsbD_mkTxn]
  have hm : anyData.getLsbD i = decide (32 ≤ i) := by
    revert i; decide
  rw [hm]
  split
  · simp [show ¬ (32 ≤ i) by omega]
  · simp [show 32 ≤ i by omega]

/-- The four checks of R76 on a transaction put together from fields. -/
theorem request_mkTxn (we : Bool) (off : Offset) (d : Word) :
    txnRequest (mkTxn we off d) = { we := we, off := off, data := d } := by
  simp [txnRequest]

/-- A write to a mapped, aligned and writable offset other than CMD passes the four checks. -/
theorem write_wellFormed (off : Offset) (d : Word)
    (h : off.toNat = 0x00 ∨ off.toNat = 0x04 ∨ off.toNat = 0x08 ∨ off.toNat = 0x0C ∨ off.toNat = 0x10) :
    Request.wellFormed { we := true, off := off, data := d } = true := by
  rcases h with h | h | h | h | h <;>
    simp [Request.wellFormed, Request.aligned, Request.mapped, Request.permitted, Request.knownCommand, h]

/-- A write of a profile register satisfies the statement, whatever its DATA. -/
theorem write_statement (m : String) (r : Reg) (d : Word) (p : Txn) (hp : p = mkTxn true r.offset 0)
    (h : r.offset.toNat = 0x00 ∨ r.offset.toNat = 0x04 ∨ r.offset.toNat = 0x08 ∨ r.offset.toNat = 0x0C ∨
      r.offset.toNat = 0x10) :
    Row.covers ⟨m, p, anyData⟩ (writeTxn r d) = true ∧ (txnRequest (writeTxn r d)).wellFormed = true := by
  subst hp
  exact ⟨covers_anyData m true r.offset d, by rw [writeTxn, request_mkTxn]; exact write_wellFormed _ d h⟩

theorem wrClkhz (d : Word) : Statement (.wrClkhz d) := write_statement _ .clkhz d _ (by decide) (by decide)
theorem rdClkhz : Statement .rdClkhz := by unfold Statement; decide
theorem wrPsc (d : Word) : Statement (.wrPsc d) := write_statement _ .psc d _ (by decide) (by decide)
theorem rdPsc : Statement .rdPsc := by unfold Statement; decide
theorem wrBaud (d : Word) : Statement (.wrBaud d) := write_statement _ .baud d _ (by decide) (by decide)
theorem rdBaud : Statement .rdBaud := by unfold Statement; decide
theorem wrOvr (d : Word) : Statement (.wrOvr d) := write_statement _ .ovr d _ (by decide) (by decide)
theorem rdOvr : Statement .rdOvr := by unfold Statement; decide
theorem wrOvrctl (d : Word) : Statement (.wrOvrctl d) := write_statement _ .ovrctl d _ (by decide) (by decide)
theorem rdOvrctl : Statement .rdOvrctl := by unfold Statement; decide
theorem rdCalc : Statement .rdCalc := by unfold Statement; decide
theorem cmdConfigure : Statement .cmdConfigure := by unfold Statement; decide
theorem cmdDisable : Statement .cmdDisable := by unfold Statement; decide
theorem rdStatus : Statement .rdStatus := by unfold Statement; decide
theorem rdCmp : Statement .rdCmp := by unfold Statement; decide
theorem rdCnt : Statement .rdCnt := by unfold Statement; decide
theorem rdApsc : Statement .rdApsc := by unfold Statement; decide
theorem rdTake : Statement .rdTake := by unfold Statement; decide

end Sys2Proof.Laws.RowEncoding
end

