-- ==== Sys2Proof/Laws/Step.lean ====
section
/-! SUPPORT. What one step can do, said once: an instruction writes the block, gives a response and touches nothing
else; a step is the next event's effect on the machine with that event taken off the list. -/

namespace Sys2Proof.Machine

/-- The block an instruction leaves. -/
def instrBlock (i : Instr) (b : Block) : Block :=
  match i with
  | .wrClkhz d => b.setClkhz (wordOperand d)
  | .wrPsc d => b.setPsc (halfOperand d)
  | .wrBaud d => b.setBaud (halfOperand d)
  | .wrOvr d => b.setOvr (wordOperand d)
  | .wrOvrctl d => b.setOvrEn (bitOperand d)
  | .cmdConfigure => b.configure
  | .cmdDisable => b.disarm
  | .rdTake => b.clearFlag
  | .rdClkhz | .rdPsc | .rdBaud | .rdOvr | .rdOvrctl | .rdCalc | .rdStatus | .rdCmp | .rdCnt | .rdApsc => b

/-- The response an instruction gives. -/
def instrResponse (i : Instr) (b : Block) : Response :=
  match i with
  | .wrClkhz _ | .wrPsc _ | .wrBaud _ | .wrOvr _ | .wrOvrctl _ | .cmdConfigure | .cmdDisable => .ok
  | .rdClkhz => .data (wordRdata b.clkhz)
  | .rdPsc => .data (halfRdata b.psc)
  | .rdBaud => .data (halfRdata b.baud)
  | .rdOvr => .data (wordRdata b.ovr)
  | .rdOvrctl => .data (bitRdata b.ovrEn)
  | .rdCalc => .data (verdictRdata b.verdict)
  | .rdStatus => .data (statusRdata b.cause b.halted b.en)
  | .rdCmp => .data (halfRdata b.cmp)
  | .rdCnt => .data (halfRdata b.cnt)
  | .rdApsc => .data (halfRdata b.apsc)
  | .rdTake => .data (bitRdata b.f)

/-- Every instruction completes, and changes the block and the response alone. -/
theorem exec_eq (i : Instr) (s : State) :
    exec i s =
      .next { s with block := instrBlock i s.block, response := some (instrResponse i s.block) } := by
  cases i <;> rfl

/-- The machine after a step: the next event taken off the list, the step counted, and what the event left. -/
def State.after (s : State) (b : Block) (r : Option Response) (fs : List BusFault) : State where
  block := b
  response := r
  faults := fs
  pending := s.pending.tail
  steps := s.steps + 1

section

variable (s : State) (b : Block) (r : Option Response) (fs : List BusFault)

@[simp] theorem State.after_block : (s.after b r fs).block = b := rfl
@[simp] theorem State.after_response : (s.after b r fs).response = r := rfl
@[simp] theorem State.after_faults : (s.after b r fs).faults = fs := rfl
@[simp] theorem State.after_pending : (s.after b r fs).pending = s.pending.tail := rfl
@[simp] theorem State.after_steps : (s.after b r fs).steps = s.steps + 1 := rfl

end

@[simp] theorem nextEvent_cons {s : State} {e : Event} {es : List Event} (h : s.pending = e :: es) :
    s.nextEvent = e := by
  simp [State.nextEvent, h]

theorem step_clk {s : State} (h : s.nextEvent = .clk) :
    step s = .next (s.after (s.block.clk (Config.freeSum (s.steps + 1))) s.response s.faults) := by
  rw [step, h]; rfl

theorem step_reset {s : State} (h : s.nextEvent = .reset) :
    step s = .next (s.after Block.reset s.response s.faults) := by
  rw [step, h]; rfl

theorem step_instr {s : State} {w : Txn} {i : Instr} (h : s.nextEvent = .host w) (hd : decode w = .instr i) :
    step s =
      .next (s.after (instrBlock i s.block) (some (instrResponse i s.block)) s.faults) := by
  rw [step, h, runEvent, runTxn, hd]
  exact exec_eq i s.advance

theorem step_illegal {s : State} {w : Txn} {c : BusCause} (h : s.nextEvent = .host w)
    (hd : decode w = .illegal c) :
    step s =
      .next (s.after s.block (some .busError) (s.faults ++ [{ off := txnOff w, we := txnWe w }])) := by
  rw [step, h, runEvent, runTxn, hd]; rfl

/-- What a step that goes on did: one of the four kinds of event. -/
theorem step_next {s t : State} (h : step s = .next t) :
    (s.nextEvent = .clk ∧
      t = s.after (s.block.clk (Config.freeSum (s.steps + 1))) s.response s.faults) ∨
    (s.nextEvent = .reset ∧ t = s.after Block.reset s.response s.faults) ∨
    (∃ w i, s.nextEvent = .host w ∧ decode w = .instr i ∧
      t = s.after (instrBlock i s.block) (some (instrResponse i s.block)) s.faults) ∨
    (∃ w c, s.nextEvent = .host w ∧ decode w = .illegal c ∧
      t = s.after s.block (some .busError) (s.faults ++ [{ off := txnOff w, we := txnWe w }])) := by
  cases he : s.nextEvent with
  | clk => rw [step_clk he] at h; cases h; exact .inl ⟨rfl, rfl⟩
  | reset => rw [step_reset he] at h; cases h; exact .inr (.inl ⟨rfl, rfl⟩)
  | host w =>
    cases hd : decode w with
    | instr i =>
      rw [step_instr he hd] at h; cases h; exact .inr (.inr (.inl ⟨w, i, rfl, hd, rfl⟩))
    | illegal c =>
      rw [step_illegal he hd] at h; cases h; exact .inr (.inr (.inr ⟨w, c, rfl, hd, rfl⟩))
  | narrow size we off => rw [step, he] at h; cases h

/-- A run of `k + 1` steps is a step and then a run of `k`. -/
theorem run_succ {s t : State} (k : Nat) (h : step s = .next t) : run (k + 1) s = run k t := by
  rw [run, h]

/-- The marks of `k + 1` steps are those of a step and then of `k`. -/
theorem marks_succ {s t : State} (k : Nat) (h : step s = .next t) :
    marks (k + 1) s = (stepMark s).toList ++ marks k t := by
  rw [marks, h]

/-- `run` is the host's run of the machine. -/
theorem run_eq_core_run (k : Nat) (s : State) : Host.Core.run Sys2Proof.core k s = run k s := by
  induction k generalizing s with
  | zero => rfl
  | succ k ih =>
    cases h : step s with
    | next t =>
      have h' : Sys2Proof.core.step s = .next t := h
      simp only [Host.Core.run, run, h]
      rw [h']
      exact ih t
    | fault r => exact nomatch r
    | refused r =>
      have h' : Sys2Proof.core.step s = .refused r := h
      simp only [Host.Core.run, run, h]
      rw [h']
      rfl

end Sys2Proof.Machine
end

