-- ==== Sys2Proof/Tests/Slice0.lean ====
section
/-! SUPPORT. Tests of the model and witnesses of the obligations' hypotheses. Every expected value is a vector of
spec/95_test_vectors.md (V-E, V-C, V-W, V-T, V-F, V-X, V-R) or worked by hand from the rule named. -/

namespace Sys2Proof.Tests

open Sys2Proof.Machine

-- ---- Helpers ----

/-- The machine with this block and these steps to come. -/
def machine (b : Block) (es : List Event) : State :=
  { State.reset with block := b, pending := es }

/-- The block of a next state. -/
def blockOf : Host.Outcome State Fault Refusal → Option Block
  | .next s => some s.block
  | .fault _ => none
  | .refused _ => none

/-- The response a next state holds. -/
def responseOf : Host.Outcome State Fault Refusal → Option Response
  | .next s => s.response
  | .fault _ => none
  | .refused _ => none

/-- The fault history of a next state. -/
def faultsOf : Host.Outcome State Fault Refusal → List BusFault
  | .next s => s.faults
  | .fault _ => []
  | .refused _ => []

/-- The outcome of one HOST word on a block. -/
def host (b : Block) (w : Txn) : Host.Outcome State Fault Refusal :=
  step (machine b [.host w])

/-- A staged `CONFIG_TICK 3, 2` before its CONFIGURE. -/
def staged : Block :=
  { Block.reset with psc := 2, ovr := 3, ovrEn := true }

/-- V-T1: the block after `CONFIG_TICK 3, 2`. -/
def armed : Block :=
  { staged with cmp := 3, apsc := 2, en := true }

/-- V-T1 before its step 2. -/
def midStep : Block :=
  { armed with pre := 1 }

/-- V-T1 before its step 6: the next CLK step is a MATCH. -/
def lastStep : Block :=
  { armed with cnt := 2, pre := 1 }

/-- Scenario A's profile: 8 MHz, prescaler 256, baud 50. -/
def profileA : Block :=
  { Block.reset with clkhz := 8000000, psc := 256, baud := 50 }

/-- The end state of V-X1. -/
def haltedBaud : Block :=
  { Block.reset with clkhz := 8000000, psc := 256, halted := true, cause := 2 }

-- ---- The checks of WellFormed: one ill-formed transaction for each ----

theorem test_wf_misaligned :
    (⟨false, 0x02, 0⟩ : Request).aligned = false ∧ (⟨false, 0x02, 0⟩ : Request).wellFormed = false := by decide

theorem test_wf_unmapped :
    (⟨false, 0x30, 0⟩ : Request).mapped = false ∧ (⟨false, 0x30, 0⟩ : Request).aligned = true ∧
    (⟨false, 0x30, 0⟩ : Request).wellFormed = false := by decide

theorem test_wf_write_of_status :
    (⟨true, 0x1C, 1⟩ : Request).permitted = false ∧ (⟨true, 0x1C, 1⟩ : Request).wellFormed = false := by decide

theorem test_wf_read_of_cmd :
    (⟨false, 0x18, 0⟩ : Request).permitted = false ∧ (⟨false, 0x18, 0⟩ : Request).wellFormed = false := by decide

theorem test_wf_unknown_command :
    (⟨true, 0x18, 0⟩ : Request).knownCommand = false ∧ (⟨true, 0x18, 0⟩ : Request).permitted = true ∧
    (⟨true, 0x18, 0⟩ : Request).wellFormed = false := by decide

theorem test_wf_legal :
    (⟨true, 0x18, 2⟩ : Request).wellFormed = true ∧ (⟨false, 0x2C, 0xDEADBEEF⟩ : Request).wellFormed = true ∧
    (⟨true, 0x10, 0xFFFFFFFE⟩ : Request).wellFormed = true := by decide

-- ---- Decoding: words written out from R76 ----

/-- V-E1, V-E3, V-E5, V-E7, V-E9, V-E12, V-E13. -/
theorem test_decode_writes :
    decode 0x8012345678 = .instr (.wrClkhz 0x12345678) ∧ decode 0x8400000100 = .instr (.wrPsc 256) ∧
    decode 0x8800000032 = .instr (.wrBaud 50) ∧ decode 0x8C00000136 = .instr (.wrOvr 310) ∧
    decode 0x9000000001 = .instr (.wrOvrctl 1) ∧ decode 0x9800000001 = .instr .cmdConfigure ∧
    decode 0x9800000002 = .instr .cmdDisable := by decide

/-- V-E2, V-E4, V-E6, V-E8, V-E10, V-E11. -/
theorem test_decode_profile_reads :
    decode 0x0000000000 = .instr .rdClkhz ∧ decode 0x0400000000 = .instr .rdPsc ∧
    decode 0x0800000000 = .instr .rdBaud ∧ decode 0x0C00000000 = .instr .rdOvr ∧
    decode 0x1000000000 = .instr .rdOvrctl ∧ decode 0x1400000000 = .instr .rdCalc := by decide

/-- V-E14 to V-E19. -/
theorem test_decode_timer_reads :
    decode 0x1C00000000 = .instr .rdStatus ∧ decode 0x2000000000 = .instr .rdCmp ∧
    decode 0x2400000000 = .instr .rdCnt ∧ decode 0x2800000000 = .instr .rdApsc ∧
    decode 0x2C00000000 = .instr .rdTake ∧ decode 0x14DEADBEEF = .instr .rdCalc := by decide

/-- V-E20 to V-E23, V-E30 to V-E34. -/
theorem test_decode_illegal :
    decode 0x0200000000 = .illegal .misaligned ∧ decode 0x8500000007 = .illegal .misaligned ∧
    decode 0x3000000000 = .illegal .unmapped ∧ decode 0xFC00000000 = .illegal .unmapped ∧
    decode 0x1800000000 = .illegal .commandRead ∧ decode 0x9800000000 = .illegal .unknownCommand ∧
    decode 0x9800000003 = .illegal .unknownCommand ∧ decode 0x9880000001 = .illegal .unknownCommand ∧
    decode 0x9800000101 = .illegal .unknownCommand := by decide

/-- V-E24 to V-E29. -/
theorem test_decode_read_only :
    decode 0x9400000271 = .illegal .readOnlyWrite ∧ decode 0x9C00000001 = .illegal .readOnlyWrite ∧
    decode 0xA000000005 = .illegal .readOnlyWrite ∧ decode 0xA400000000 = .illegal .readOnlyWrite ∧
    decode 0xA800000001 = .illegal .readOnlyWrite ∧ decode 0xAC00000001 = .illegal .readOnlyWrite := by decide

/-- The encoder gives the words of V-E1, V-E9, V-E13 and V-E18. -/
theorem test_encode :
    encode (.wrClkhz 0x12345678) = 0x8012345678 ∧ encode (.wrOvrctl 1) = 0x9000000001 ∧
    encode .cmdDisable = 0x9800000002 ∧ encode .rdTake = 0x2C00000000 := by decide

/-- The table's words of three rows, one with its DATA left out. -/
theorem test_decode_table_word :
    decodeTableWord 40 0x9800000001 = some .cmdConfigure ∧ decodeTableWord 40 0x2C00000000 = some .rdTake ∧
    decodeTableWord 40 0x8400000000 = some (.wrPsc 0) ∧ decodeTableWord 40 0x9800000000 = none := by decide

/-- `withFetchWord` makes the next step run the word: RD_CALC right after reset reads V-R6. -/
theorem test_fetch_word_runs :
    responseOf (step (State.reset.withFetchWord 40 0x1400000000)) = some (.data 0x80010000) := by decide

-- ---- The calculator: vectors V-C ----

/-- V-C1, V-C2, V-C3, V-C4, V-C6: ties and rounding. -/
theorem test_tick_rounding :
    tickCalc 3 1 2 0 false = .tick 2 ∧ tickCalc 5 1 2 0 false = .tick 3 ∧ tickCalc 4 1 3 0 false = .tick 1 ∧
    tickCalc 5 1 3 0 false = .tick 2 ∧ tickCalc 1 1 2 0 false = .tick 1 := by decide

/-- V-C5, V-C7, V-C8, V-C9, V-C10, V-C11: the edges of the range. -/
theorem test_tick_range :
    tickCalc 1 1 3 0 false = .error .tickZero ∧ tickCalc 131069 1 2 0 false = .tick 65535 ∧
    tickCalc 131071 1 2 0 false = .error .tickOverflow ∧ tickCalc 655353 1 10 0 false = .tick 65535 ∧
    tickCalc 65535 1 1 0 false = .tick 65535 ∧ tickCalc 65536 1 1 0 false = .error .tickOverflow := by decide

/-- V-C12, V-C13, V-C14, V-C24: nothing wraps, and there is one rounding only. -/
theorem test_tick_no_wrap :
    tickCalc 4294967295 65535 65535 0 false = .tick 1 ∧
    tickCalc 4294967295 1 1 0 false = .error .tickOverflow ∧
    tickCalc 8000000 256 100 0 false = .tick 313 ∧
    tickCalc 4294967295 65535 1 0 false = .error .tickOverflow := by decide

/-- V-C15 to V-C18: the causes and their order. -/
theorem test_tick_causes :
    tickCalc 0 256 50 0 false = .error .tickZero ∧ tickCalc 8000000 0 50 0 false = .error .pscInvalid ∧
    tickCalc 8000000 0 0 0 false = .error .pscInvalid ∧ tickCalc 8000000 256 0 0 false = .error .baudZero := by
  decide

/-- V-C19 to V-C23, V-C27, V-C30: the override. -/
theorem test_tick_override :
    tickCalc 8000000 256 0 310 true = .tick 310 ∧ tickCalc 8000000 256 50 0 true = .error .tickZero ∧
    tickCalc 8000000 256 50 65536 true = .error .tickOverflow ∧ tickCalc 8000000 256 50 65535 true = .tick 65535 ∧
    tickCalc 8000000 0 50 310 true = .error .pscInvalid ∧
    tickCalc 8000000 256 50 0x00010136 true = .error .tickOverflow ∧
    tickCalc 16000000 256 100 310 true = .tick 310 := by decide

/-- V-C28, V-C29: scenarios A and B, and the word CALC reads for A. -/
theorem test_tick_scenarios :
    tickCalc 8000000 256 50 0 false = .tick 625 ∧ tickCalc 16000000 256 100 0 false = .tick 625 ∧
    verdictRdata (.tick 625) = 0x00000271 ∧ verdictRdata (.error .tickOverflow) = 0x80040000 := by decide

/-- R121 by hand: each negative input without an override, and scenario A on integers. -/
theorem test_integer_clock_config :
    clockConfigInt (-8000000) 256 50 none = .error .tickZero ∧
    clockConfigInt 8000000 (-1) 50 none = .error .pscInvalid ∧
    clockConfigInt 8000000 256 (-50) none = .error .baudZero ∧
    clockConfigInt 8000000 256 50 none = .tick 625 := by decide

/-- R121 by hand, with an override: a negative baud, clock and override are errors, and V-C19 (a baud of 0) is not. -/
theorem test_integer_override :
    clockConfigInt 8000000 256 (-5) (some 310) = .error .baudZero ∧
    clockConfigInt (-1) 256 50 (some 310) = .error .tickZero ∧
    clockConfigInt 8000000 256 50 (some (-310)) = .error .tickZero ∧
    clockConfigInt 8000000 256 0 (some 310) = .tick 310 := by decide

-- ---- Profile registers: vectors V-W ----

/-- V-W1. -/
theorem test_wr_clkhz :
    blockOf (host armed 0x80007A1200) = some { armed with clkhz := 8000000 } ∧
    responseOf (host armed 0x80007A1200) = some .ok := by decide

/-- V-W3: bits 31:16 ignored. -/
theorem test_wr_psc :
    blockOf (host armed 0x8400010100) = some { armed with psc := 0x0100 } := by decide

/-- V-W5. -/
theorem test_wr_baud :
    blockOf (host armed 0x8800010032) = some { armed with baud := 50 } := by decide

/-- V-W7. -/
theorem test_wr_ovr :
    blockOf (host armed 0x8CFFFFFFFF) = some { armed with ovr := 0xFFFFFFFF } := by decide

/-- V-W8, V-W9: bits 31:1 ignored. -/
theorem test_wr_ovrctl :
    blockOf (host Block.reset 0x9000000001) = some { Block.reset with ovrEn := true } ∧
    blockOf (host staged 0x90FFFFFFFE) = some { staged with ovrEn := false } := by decide

/-- The reads of V-W1, V-W2, V-W5. -/
theorem test_rd_clkhz : responseOf (host profileA 0x0000000000) = some (.data 0x007A1200) := by decide

theorem test_rd_psc : responseOf (host profileA 0x0400000000) = some (.data 0x00000100) := by decide

theorem test_rd_baud : responseOf (host profileA 0x0800000000) = some (.data 0x00000032) := by decide

/-- V-W7's read. -/
theorem test_rd_ovr :
    responseOf (host { Block.reset with ovr := 0xFFFFFFFF } 0x0C00000000) = some (.data 0xFFFFFFFF) := by decide

/-- V-W8's read. -/
theorem test_rd_ovrctl : responseOf (host staged 0x1000000000) = some (.data 0x00000001) := by decide

/-- V-X8: the read of CALC reports the error and halts nothing. -/
theorem test_rd_calc :
    host haltedBaud 0x1400000000 = .next { machine haltedBaud [] with
      response := some (.data 0x80020000), steps := 1 } := rfl

/-- V-C28's CALC word, read. -/
theorem test_rd_calc_scenario_a :
    responseOf (host profileA 0x1400000000) = some (.data 0x00000271) := by decide

-- ---- Commands and the timer: vectors V-T and V-X ----

/-- P1's step 5: scenario A armed. -/
theorem test_configure_arms :
    blockOf (host profileA 0x9800000001) = some { profileA with cmp := 625, apsc := 256, en := true } := by decide

/-- V-X1, and V-X2: the second CONFIGURE is ignored, with response OK. -/
theorem test_configure_halts :
    blockOf (host { Block.reset with clkhz := 8000000, psc := 256 } 0x9800000001) = some haltedBaud ∧
    blockOf (host { haltedBaud with baud := 50 } 0x9800000001) = some { haltedBaud with baud := 50 } ∧
    responseOf (host { haltedBaud with baud := 50 } 0x9800000001) = some .ok := by decide

/-- V-T5's DISABLE: CNT and PRE hold. V-X6: it is legal while halted. -/
theorem test_disable :
    blockOf (host { armed with cnt := 2, pre := 1 } 0x9800000002) =
      some { staged with cmp := 3, apsc := 2, cnt := 2, pre := 1, en := false } ∧
    blockOf (host haltedBaud 0x9800000002) = some haltedBaud := by decide

/-- STATUS of V-X1, V-T8, V-X3 and V-X4. -/
theorem test_rd_status :
    responseOf (host haltedBaud 0x1C00000000) = some (.data 0x0000000A) ∧
    responseOf (host { haltedBaud with en := true } 0x1C00000000) = some (.data 0x0000000B) ∧
    responseOf (host { haltedBaud with cause := 4 } 0x1C00000000) = some (.data 0x00000012) ∧
    responseOf (host { haltedBaud with cause := 3 } 0x1C00000000) = some (.data 0x0000000E) := by decide

/-- P7's steps 12, 13 and P5's step 10. -/
theorem test_rd_apsc :
    responseOf (host { profileA with apsc := 1 } 0x2800000000) = some (.data 0x00000001) := by decide

theorem test_rd_cmp :
    responseOf (host { profileA with cmp := 4 } 0x2000000000) = some (.data 0x00000004) := by decide

theorem test_rd_cnt :
    responseOf (host { profileA with cnt := 3, pre := 232 } 0x2400000000) = some (.data 0x00000003) := by decide

/-- V-T1's steps 1, 2 and 6. -/
theorem test_clk_steps :
    Block.clk 0 armed = { armed with pre := 1 } ∧
    Block.clk 0 midStep = { armed with cnt := 1 } ∧
    Block.clk 0 lastStep = { armed with f := true } := by decide

/-- V-T2: every step is a match. -/
theorem test_clk_shortest_period :
    Block.clk 0 { armed with cmp := 1, apsc := 1 } = { armed with cmp := 1, apsc := 1, f := true } := by decide

/-- V-T4: the largest period's last step but one count, and its match. -/
theorem test_clk_longest_period :
    Block.clk 0 { armed with cmp := 65535, apsc := 65535, cnt := 65533, pre := 65534 } =
      { armed with cmp := 65535, apsc := 65535, cnt := 65534 } ∧
    Block.clk 0 { armed with cmp := 65535, apsc := 65535, cnt := 65534, pre := 65534 } =
      { armed with cmp := 65535, apsc := 65535, f := true } := by decide

/-- V-T5, V-T8: a CLK step changes nothing while disabled or halted. -/
theorem test_clk_stopped :
    Block.clk 0 { lastStep with en := false } = { lastStep with en := false } ∧
    Block.clk 0 { lastStep with halted := true, cause := 2 } = { lastStep with halted := true, cause := 2 } := by
  decide

/-- V-R12 and R230: RESET of a halted block. -/
theorem test_reset : blockOf (step (machine haltedBaud [.reset])) = some Block.reset := by decide

-- ---- The tick flag: vectors V-F ----

/-- V-F3's first read, and V-F4. -/
theorem test_rd_take :
    blockOf (host { armed with f := true } 0x2C00000000) = some armed ∧
    responseOf (host { armed with f := true } 0x2C00000000) = some (.data 1) ∧
    responseOf (host armed 0x2C00000000) = some (.data 0) := by decide

/-- V-F9, V-F10, V-F11: the commands leave F. -/
theorem test_commands_leave_flag :
    (host { staged with f := true } 0x9800000001 |> blockOf).map Block.irqO = some true ∧
    (host { armed with f := true } 0x9800000002 |> blockOf).map Block.irqO = some true ∧
    (host { Block.reset with f := true } 0x9800000001 |> blockOf).map Block.irqO = some true := by decide

/-- V-F15: the error response, no state changed, and the fault history's entry of P6 step 9. -/
theorem test_bus_error :
    blockOf (host { armed with f := true } 0xAC00000001) = some { armed with f := true } ∧
    responseOf (host { armed with f := true } 0xAC00000001) = some .busError ∧
    faultsOf (host { armed with f := true } 0xAC00000001) = [⟨0x2C, true⟩] := by decide

/-- I20: the data a model gives with a BusError is 0. -/
theorem test_bus_error_data : Response.busError.rdata = some 0 := by decide

/-- R52, D35: a narrow access is refused by name. -/
theorem test_narrow_refused :
    step (machine armed [.narrow .byte false 0x24]) = .refused (.narrowAccess .byte) := rfl

/-- R81, R82: `CONFIG_TICK 3, 2` is the four words of P4, and a CMD read is no line of assembly. -/
theorem test_assembly :
    assembleLines (Pseudo.configTick 3 2).expand =
      some [.host 0x8400000002, .host 0x8C00000003, .host 0x9000000001, .host 0x9800000001] ∧
    assembleLines [.rd .cmd] = none ∧ assembleLines [.wr .calc 0] = none ∧
    assembleLines [.wr .psc (2 ^ 32)] = none := by decide

-- ---- Witnesses: a concrete case that meets each obligation's hypotheses ----

/-- For ResetClearsEveryElement and ReadsRightAfterReset, in a halted machine. -/
theorem witness_reset_next : (machine haltedBaud [.reset]).nextEvent = .reset := rfl

/-- For PlainReadsAreIdempotent. -/
theorem witness_plain_read :
    isPlainRead .rdCnt = true ∧
    exec .rdCnt (machine lastStep []) = .next { machine lastStep [] with response := some (.data 2) } :=
  ⟨rfl, rfl⟩

/-- For ProfileWriteFrame: one next state for each of its six clauses. -/
theorem witness_profile_write_frame :
    (∃ t, exec (.wrClkhz 1) (machine armed []) = .next t) ∧ (∃ t, exec (.wrPsc 0x10000) (machine armed []) = .next t) ∧
    (∃ t, exec (.wrBaud 1) (machine armed []) = .next t) ∧ (∃ t, exec (.wrOvr 1) (machine armed []) = .next t) ∧
    (∃ t, exec (.wrOvrctl 0) (machine armed []) = .next t ∧ isProfileWrite (.wrOvrctl 0) = true) :=
  ⟨⟨_, rfl⟩, ⟨_, rfl⟩, ⟨_, rfl⟩, ⟨_, rfl⟩, ⟨_, rfl, rfl⟩⟩

/-- For ProfileWriteLeavesRunningTimer, its second clause: a running timer one step before its match. -/
theorem witness_running_write : isProfileWrite (.wrPsc 1) = true ∧ lastStep.Consistent := by decide

/-- For ProfileWriteLeavesRunningTimer, its third clause: a CONFIGURE that changes CMP and APSC. -/
theorem witness_active_registers_change :
    ∃ t, step (machine staged [.host 0x9800000001]) = .next t ∧
      (machine staged [.host 0x9800000001]).nextEvent ≠ .reset ∧ t.block.cmp ≠ staged.cmp :=
  ⟨_, rfl, by decide, by decide⟩

/-- For TickCalcReportsFirstFailingCheck: each clause's premises, at the edges of the range. -/
theorem witness_tick_calc_clauses :
    (0 : Half) = 0 ∧ (1 : Half) ≠ 0 ∧
    0 = (2 * (0 : Word).toNat + (1 : Half).toNat * (1 : Half).toNat) / (2 * ((1 : Half).toNat * (1 : Half).toNat)) ∧
    1 = (2 * (1 : Word).toNat + (1 : Half).toNat * (1 : Half).toNat) / (2 * ((1 : Half).toNat * (1 : Half).toNat)) ∧
    65535 = (65535 : Word).toNat ∧ 65535 < (65536 : Word).toNat := by decide

/-- For TickIsWithinHalfAndMonotone: a tie at the top of the range, and a strict step of each input. -/
theorem witness_tick_bounds :
    tickCalc 131069 1 2 0 false = .tick 65535 ∧ tickCalc 1 1 2 0 false = .tick 1 ∧
    roundedRatio 5 (3 * 2) ≤ roundedRatio 9 (1 * 1) := by decide

/-- For RoundsToNearestAndTieUp: both sides at a tie. -/
theorem witness_rounding : (0 : Nat) < 2 ∧ roundedRatio 3 2 = 2 ∧ 2 * 2 * 2 ≤ 2 * 3 + 2 ∧ 2 * 3 < 2 * 2 * 2 + 2 := by
  decide

/-- For ThirtyFourBitDividerIsExact: the largest divisor, and a tick from each source. -/
theorem witness_divider :
    (65535 : Half) ≠ 0 ∧ tickCalc 4294967295 65535 65535 0 false = .tick 1 ∧
    tickCalc 0 1 0 65535 true = .tick 65535 := by decide

/-- For OverrideTakesPrecedence: the premises of its clauses at the range's edges. -/
theorem witness_override :
    (1 : Half) ≠ 0 ∧ (0 : Word) = 0 ∧ 65535 < (65536 : Word).toNat ∧
    (1 ≤ (1 : Word).toNat ∧ (1 : Word).toNat ≤ 65535) ∧ (1 ≤ (65535 : Word).toNat ∧ (65535 : Word).toNat ≤ 65535) := by
  decide

/-- For IntegerClockConfigNeverWraps: a tick from each source at its smallest baud, and the values -1, 0 and 1 that its
other clauses meet at. -/
theorem witness_integer_clock_config :
    clockConfigInt 8000000 256 50 none = .tick 625 ∧ clockConfigInt 0 1 0 (some 1) = .tick 1 ∧
    (-1 : Int) < 0 ∧ (0 : Int) < 1 ∧ (0 : Int) ≤ 0 ∧ ((some 1 : Option Int) = none → (0 : Int) < 0) := by decide

/-- For ConfigureArmsOrHalts: a block for each of the three cases, the error case for each cause. -/
theorem witness_configure :
    haltedBaud.halted = true ∧ (staged.halted = false ∧ staged.verdict = .tick 3) ∧
    (Block.reset.halted = false ∧ Block.reset.verdict = .error .pscInvalid) ∧
    (({ Block.reset with psc := 1 } : Block).verdict = .error .baudZero) ∧
    (({ Block.reset with psc := 1, ovrEn := true } : Block).verdict = .error .tickZero) ∧
    (({ Block.reset with psc := 1, ovr := 65536, ovrEn := true } : Block).verdict = .error .tickOverflow) := by decide

/-- For CommandsLeaveFlagAndProfile: a next state of each command. -/
theorem witness_commands :
    (∃ t, exec .cmdConfigure (machine staged []) = .next t) ∧ (∃ t, exec .cmdDisable (machine armed []) = .next t) :=
  ⟨⟨_, rfl⟩, ⟨_, rfl⟩⟩

/-- For OnlySuccessfulConfigureArms. -/
theorem witness_arming :
    ∃ t, step (machine staged [.host 0x9800000001]) = .next t ∧ staged.en = false ∧ t.block.en = true :=
  ⟨_, rfl, rfl, rfl⟩

/-- For DisableHoldsTheCount, and its inner premises: the disabled block's CONFIGURE would succeed. -/
theorem witness_disable_then_clk :
    (machine lastStep [.host 0x9800000002, .clk, .clk, .reset]).pending =
      .host 0x9800000002 :: (List.replicate 2 .clk ++ [.reset]) ∧
    ({ lastStep with en := false } : Block).halted = false ∧
    ({ lastStep with en := false } : Block).verdict = .tick 3 := by decide

/-- For ClkStepAdvancesTimer, its first two cases: a block that is stopped, and one whose PRE advances. -/
theorem witness_clk_stopped_and_counting :
    (machine armed [.clk]).nextEvent = .clk ∧ (haltedBaud.Consistent ∧ haltedBaud.halted = true) ∧
    (armed.Consistent ∧ armed.en = true ∧ armed.halted = false ∧ armed.pre.toNat ≠ armed.apsc.toNat - 1) := by decide

/-- For ClkStepAdvancesTimer, its third case: a prescaled tick that is no match. -/
theorem witness_clk_prescaled_tick :
    midStep.Consistent ∧ midStep.pre.toNat = midStep.apsc.toNat - 1 ∧
    midStep.cnt.toNat ≠ midStep.cmp.toNat - 1 := by decide

/-- For ClkStepAdvancesTimer, its last case: a match. -/
theorem witness_clk_last_step :
    lastStep.Consistent ∧ lastStep.pre.toNat = lastStep.apsc.toNat - 1 ∧
    lastStep.cnt.toNat = lastStep.cmp.toNat - 1 := by decide

/-- For ClkFrame, with F = 1 before the step. -/
theorem witness_clk_frame :
    ∃ t, step (machine { lastStep with f := true } [.clk]) = .next t ∧ t.block.f = true :=
  ⟨_, rfl, rfl⟩

/-- For MatchesFallOnMultiplesOfThePeriod and MatchCountIsStepsOverPeriod: a CONFIGURE, then CLK steps with a profile
write, a Take and an illegal word among them. -/
theorem witness_traffic :
    (machine staged [.host 0x9800000001, .clk, .host 0x8400000001, .clk, .host 0x2C00000000, .host 0x1800000000,
      .reset]).pending = .host 0x9800000001 ::
        ([.clk, .host 0x8400000001, .clk, .host 0x2C00000000, .host 0x1800000000] ++ [.reset]) ∧
    staged.halted = false ∧ staged.verdict = .tick 3 ∧
    (∀ e ∈ ([.clk, .host 0x8400000001, .clk, .host 0x2C00000000, .host 0x1800000000] : List Event),
      e.isTraffic = true) := by decide

/-- For DisableConfigureIsIdempotent: two phases of the timer with one profile. -/
theorem witness_two_phases :
    (machine armed [.host 0x9800000002, .host 0x9800000001, .clk]).pending =
      .host 0x9800000002 :: .host 0x9800000001 :: (List.replicate 1 .clk ++ []) ∧
    armed.halted = false ∧ lastStep.halted = false ∧ armed.verdict = .tick 3 ∧ lastStep.clkhz = armed.clkhz ∧
    lastStep.psc = armed.psc ∧ lastStep.baud = armed.baud ∧ lastStep.ovr = armed.ovr ∧ lastStep.ovrEn = armed.ovrEn := by
  decide

/-- For SameCycleMatchAndConfigure, SameCycleSetAndTake and CoalescedTickLeavesNoTrace: V-T9, also with a period of
one step. -/
theorem witness_match_now :
    lastStep.matchNow = true ∧ lastStep.verdict = .tick 3 ∧ (machine lastStep [.clk]).nextEvent = .clk ∧
    ({ armed with psc := 1, ovr := 1, cmp := 1, apsc := 1 } : Block).matchNow = true ∧
    ({ armed with psc := 1, ovr := 1, cmp := 1, apsc := 1 } : Block).verdict = .tick 1 := by decide

/-- For EveryStepKeepsConsistency: a MATCH from a block of the invariant. -/
theorem witness_consistent_step :
    lastStep.Consistent ∧ ∃ t, step (machine lastStep [.clk]) = .next t :=
  ⟨by decide, _, rfl⟩

/-- For HaltedHoldsUntilReset: a CLK step, a CONFIGURE and another transaction. -/
theorem witness_halted_steps :
    haltedBaud.halted = true ∧
    (∃ t, step (machine haltedBaud [.clk]) = .next t ∧ (machine haltedBaud [.clk]).nextEvent ≠ .reset) ∧
    (∃ t, step (machine haltedBaud [.host 0x9800000001]) = .next t ∧
      decode 0x9800000001 = .instr .cmdConfigure) ∧
    (∃ t, step (machine { haltedBaud with en := true } [.host 0x9800000002]) = .next t) :=
  ⟨rfl, ⟨_, rfl, by decide⟩, ⟨_, rfl, by decide⟩, ⟨_, rfl⟩⟩

/-- For OnlyConfigurationErrorHalts. -/
theorem witness_halting :
    ∃ t, step (machine Block.reset [.host 0x9800000001]) = .next t ∧ Block.reset.halted = false ∧
      t.block.halted = true :=
  ⟨_, rfl, rfl, rfl⟩

/-- For NoMatchWhileHalted: a block that would match if it were not halted. -/
theorem witness_halted_run :
    Mark.reset ∉ marks 2 (machine { lastStep with halted := true, cause := 1 } [.clk, .host 0x2C00000000]) := by decide

/-- For OnlySetAndTakeWriteTheFlag: a set, a clear by Take and a clear by RESET. -/
theorem witness_flag_writes :
    (∃ t, step (machine lastStep [.clk]) = .next t ∧ lastStep.f = false ∧ t.block.f = true ∧
      lastStep.matchNow = true) ∧
    (∃ t, step (machine { armed with f := true } [.host 0x2C00000000]) = .next t ∧ t.block.f = false ∧
      decode 0x2C00000000 = .instr .rdTake) ∧
    (∃ t, step (machine { armed with f := true } [.reset]) = .next t ∧ t.block.f = false) :=
  ⟨⟨_, rfl, rfl, rfl, rfl⟩, ⟨_, rfl, rfl, by decide⟩, ⟨_, rfl, rfl⟩⟩

/-- For SecondTakeReturnsZero: V-F3. -/
theorem witness_two_takes :
    ∃ t u, exec .rdTake (machine { armed with f := true } []) = .next t ∧ exec .rdTake t = .next u :=
  ⟨_, _, rfl, rfl⟩

/-- For TakeReturnsZeroUntilMatch: between the two reads a CLK step that is no MATCH, another Take and an illegal
word. -/
theorem witness_take_then_run :
    let t := machine armed [.clk, .host 0x2C00000000, .host 0xAC00000001]
    (exec .rdTake t |> blockOf).isSome = true ∧ (run 3 t |> blockOf).isSome = true ∧ Mark.tick ∉ marks 3 t := by decide

/-- For TakesNeverExceedMatches: V-F13, two MATCH events and one Take. -/
theorem witness_coalesced_run :
    let s := machine { armed with cmp := 1, apsc := 1 } [.clk, .clk, .host 0x2C00000000]
    s.block.f = false ∧ (run 3 s |> blockOf).isSome = true ∧ Mark.reset ∉ marks 3 s ∧
    marks 3 s = [.tick, .tick, .take true] ∧ 1 ≤ matchCount (marks 3 s) := by decide

/-- For NoTickIsLostInTime: a run that meets both of its clauses' premises, as in V-F14. -/
theorem witness_timely_run :
    let s := machine { armed with cmp := 1, apsc := 1 } [.clk, .host 0x2C00000000, .clk, .host 0x2C00000000]
    s.block.f = false ∧ (run 4 s |> blockOf).isSome = true ∧ Mark.reset ∉ marks 4 s ∧
    marks 4 s = [.tick, .take true, .tick, .take true] ∧ takeBetweenMatches (marks 4 s) = true ∧
    everyMatchTaken (marks 4 s) = true := by decide

/-- For LegalWordIsItsEncoding: a write, and a read with DATA. -/
theorem witness_legal_words :
    (decode 0x80FFFFFFFF = .instr (.wrClkhz 0xFFFFFFFF) ∧ (0x80FFFFFFFF : Txn).getLsbD 39 = true) ∧
    (decode 0x14DEADBEEF = .instr .rdCalc ∧ (0x14DEADBEEF : Txn).getLsbD 39 = false) := by decide

/-- For ReadIgnoresData. -/
theorem witness_read_words :
    (0x14DEADBEEF : Txn).toNat / 2 ^ 32 = (0x1400000000 : Txn).toNat / 2 ^ 32 ∧
    (0x14DEADBEEF : Txn).toNat / 2 ^ 39 = 0 := by decide

/-- For EachWordHasOneRowOrIsIllegal: a word in a row, and a word in none. -/
theorem witness_rows :
    opcodeTable.filter (fun r => r.covers 0x14DEADBEEF) = [rowOf .rdCalc] ∧
    opcodeTable.filter (fun r => r.covers 0x9800000003) = [] := by decide

/-- For BusErrorExactlyOnIllegalWords: the words on both sides of the edges of the window, the access rules and the
command codes. -/
theorem witness_bus_error_words :
    (machine armed [.host 0x3000000000]).nextEvent = .host 0x3000000000 ∧
    (0x3000000000 : Txn).toNat / 2 ^ 32 % 128 = 0x30 ∧ (0x2C00000000 : Txn).toNat / 2 ^ 32 % 128 = 0x2C ∧
    (0xAC00000000 : Txn).toNat / 2 ^ 39 = 1 ∧ (0x2C00000000 : Txn).toNat / 2 ^ 39 = 0 ∧
    (0x9800000003 : Txn).toNat % 2 ^ 32 = 3 ∧ (0x9800000002 : Txn).toNat % 2 ^ 32 = 2 := by decide

/-- For StepRunsDecodedInstruction. -/
theorem witness_decoded_step :
    (machine armed [.host 0x2400000000, .clk]).pending = .host 0x2400000000 :: [.clk] ∧
    decode 0x2400000000 = .instr .rdCnt := by decide

/-- For EveryAgentStepCompletes: an event of an agent, and a narrow access. -/
theorem witness_events :
    (∀ z we off, (machine armed [.clk]).nextEvent ≠ .narrow z we off) ∧
    (machine armed [.narrow .half true 0x2C]).nextEvent = .narrow .half true 0x2C :=
  ⟨fun _ _ _ h => (nomatch h), rfl⟩

/-- For FaultHistoryOnlyGrows: a legal word, and an illegal one whose entry is there already (P6, steps 10 and 11). -/
theorem witness_fault_history :
    (∃ t, step (machine armed [.host 0x2400000000]) = .next t ∧ t.faults = []) ∧
    (∃ t, step { machine armed [.host 0x9800000003] with faults := [⟨0x18, true⟩] } = .next t ∧
      t.faults = [⟨0x18, true⟩, ⟨0x18, true⟩]) :=
  ⟨⟨_, rfl, rfl⟩, ⟨_, rfl, rfl⟩⟩

/-- For HostAddressReachesOffset: the first address past the window. -/
theorem witness_outside_window (off : Offset) : Config.blockBase + 128 ≠ hostAddress off := by
  have h := off.isLt
  rw [hostAddress]
  omega

/-- For ConfigTickArmsTimer: the largest and the smallest values. -/
theorem witness_config_tick :
    (1 ≤ 65535 ∧ 65535 ≤ 65535 ∧ 1 ≤ 1 ∧ (1 : Nat) ≤ 65535) ∧
    (machine Block.reset [.host 0x8400000002, .host 0x8C00000003, .host 0x9000000001, .host 0x9800000001]).pending =
      [.host 0x8400000002, .host 0x8C00000003, .host 0x9000000001, .host 0x9800000001] ++ [] ∧
    Block.reset.halted = false := by decide

/-- For ConfigProfileArmsTimer: scenario A, and the tie at the top of the range (V-C7). -/
theorem witness_config_profile :
    (8000000 < 2 ^ 32 ∧ 625 = (2 * 8000000 + 256 * 50) / (2 * (256 * 50))) ∧
    (131069 < 2 ^ 32 ∧ 65535 = (2 * 131069 + 1 * 2) / (2 * (1 * 2))) ∧ Block.reset.halted = false := by decide

end Sys2Proof.Tests
end

section
/-! What the next event makes of a step: the agents' events complete, a HOST word runs its instruction, and a narrow
access is refused (R9, R52, R56, R58). -/

namespace Sys2Proof.Machine

/-- Taking the oldest listed event off the list leaves the others. -/
theorem advance_cons {s : State} {e : Event} {es : List Event} (h : s.pending = e :: es) :
    s.advance = { s with pending := es, steps := s.steps + 1 } := by
  rw [State.advance, h, List.tail_cons]

/-- The counterpart of `step_instr` through the dispatch itself: a HOST word runs the instruction it decodes to (R9). -/
theorem step_eq_exec {s : State} {w : Txn} {i : Instr} (h : s.nextEvent = .host w) (hd : decode w = .instr i) :
    step s = exec i s.advance := by
  rw [step, h, runEvent, runTxn, hd]

/-- A narrow access is refused by name (R52, D35). -/
theorem step_narrow {s : State} {z : NarrowSize} {we : Bool} {off : Offset} (h : s.nextEvent = .narrow z we off) :
    step s = .refused (.narrowAccess z) := by
  rw [step, h, runEvent]

/-- A HOST word completes its step, legal or not: an illegal one ends in an error response (R200, R201). -/
theorem step_host_completes {s : State} {w : Txn} (h : s.nextEvent = .host w) :
    ∃ b r fs, step s = .next (s.after b r fs) := by
  cases hd : decode w with
  | instr i => exact ⟨_, _, _, step_instr h hd⟩
  | illegal c => exact ⟨_, _, _, step_illegal h hd⟩

/-- Every event but a narrow access completes its step (R9, R56). -/
theorem step_completes {s : State} (h : ∀ z we off, s.nextEvent ≠ .narrow z we off) :
    ∃ b r fs, step s = .next (s.after b r fs) := by
  cases he : s.nextEvent with
  | clk => exact ⟨_, _, _, step_clk he⟩
  | host w => exact step_host_completes he
  | reset => exact ⟨_, _, _, step_reset he⟩
  | narrow z we off => exact absurd he (h z we off)

/-- Settles O44, by cases on the next event: an agent's event leaves `State.after`, whose list and count are known. -/
theorem everyAgentStepCompletes : Obligations.EveryAgentStepCompletes := by
  refine ⟨fun s h => ?_, fun s z we off => step_narrow⟩
  obtain ⟨b, r, fs, hstep⟩ := step_completes h
  exact ⟨_, hstep, s.after_pending b r fs, s.after_steps b r fs⟩

/-- Settles O43: the oldest listed event is the next one, and the machine run on is the one it was taken off. -/
theorem stepRunsDecodedInstruction : Obligations.StepRunsDecodedInstruction := by
  intro s w i rest h hd
  rw [step_eq_exec (nextEvent_cons h) hd, advance_cons h]

end Sys2Proof.Machine
end

section
/-! R37 as an invariant: the reset state meets it, and every operation a step is made of keeps it. -/

namespace Sys2Proof.Machine

section

variable {b : Block}

/-! The clauses of R37 about an enabled timer, by name. -/

theorem Block.Consistent.cmp_pos (h : b.Consistent) (hen : b.en = true) : 1 ≤ b.cmp.toNat := (h.1 hen).1

theorem Block.Consistent.apsc_pos (h : b.Consistent) (hen : b.en = true) : 1 ≤ b.apsc.toNat := (h.1 hen).2.1

theorem Block.Consistent.cnt_lt_cmp (h : b.Consistent) (hen : b.en = true) : b.cnt.toNat < b.cmp.toNat :=
  (h.1 hen).2.2.1

theorem Block.Consistent.pre_lt_apsc (h : b.Consistent) (hen : b.en = true) : b.pre.toNat < b.apsc.toNat :=
  (h.1 hen).2.2.2

/-- A counter below a register's value that is not at its end stays below it: the sum fits 16 bits (R11). -/
theorem increment_lt {v bound : Half} (free : Half) (hlt : v.toNat < bound.toNat)
    (hend : v.toNat + 1 ≠ bound.toNat) : (increment free v).toNat < bound.toNat := by
  have hbound := bound.isLt
  rw [increment_toNat free (by omega)]
  omega

theorem preAtEnd_eq_false_iff : b.preAtEnd = false ↔ b.pre.toNat + 1 ≠ b.apsc.toNat :=
  beq_eq_false_iff_ne

theorem cntAtEnd_eq_false_iff : b.cntAtEnd = false ↔ b.cnt.toNat + 1 ≠ b.cmp.toNat :=
  beq_eq_false_iff_ne

/-- The codes of R203 are those R37 allows while halted. -/
theorem causeCode_bounds (c : Cause) : 1 ≤ c.code.toNat ∧ c.code.toNat ≤ 4 := by
  cases c <;> decide

theorem reset_consistent : Block.reset.Consistent :=
  ⟨nofun, fun _ => rfl, nofun⟩

theorem Block.Consistent.setPre (h : b.Consistent) {v : Half} (hv : b.en = true → v.toNat < b.apsc.toNat) :
    (b.setPre v).Consistent :=
  ⟨fun hen => ⟨h.cmp_pos hen, h.apsc_pos hen, h.cnt_lt_cmp hen, hv hen⟩, h.2⟩

theorem Block.Consistent.setCnt (h : b.Consistent) {v : Half} (hv : b.en = true → v.toNat < b.cmp.toNat) :
    (b.setCnt v).Consistent :=
  ⟨fun hen => ⟨h.cmp_pos hen, h.apsc_pos hen, hv hen, h.pre_lt_apsc hen⟩, h.2⟩

theorem Block.Consistent.disarm (h : b.Consistent) : b.disarm.Consistent :=
  ⟨nofun, h.2⟩

/-- A ConfigurationError leaves the timer's registers, and CAUSE gets one of the four codes (R202). -/
theorem Block.Consistent.configurationError (h : b.Consistent) (c : Cause) : (b.configurationError c).Consistent :=
  ⟨h.1, nofun, fun _ => causeCode_bounds c⟩

/-- A successful CONFIGURE starts CNT and PRE at 0, below a tick and a prescaler that passed their checks (R104,
R132). -/
theorem Block.Consistent.arm (h : b.Consistent) {t : Half} (hv : b.verdict = .tick t) : (b.arm t).Consistent :=
  have ⟨htick, hpsc⟩ := verdict_tick hv
  ⟨fun _ => ⟨htick, hpsc, htick, hpsc⟩, h.2⟩

theorem Block.Consistent.configure (h : b.Consistent) : b.configure.Consistent := by
  obtain ⟨-, e⟩ | ⟨c, -, -, e⟩ | ⟨t, -, hv, e⟩ := configure_cases b <;> rw [e]
  · exact h
  · exact h.configurationError c
  · exact h.arm hv

/-- A CLK step keeps R37: PRE and CNT advance only where they are not at their end, and return to 0 where they are
(R140, R141). -/
theorem Block.Consistent.clk (h : b.Consistent) (free : Half) : (b.clk free).Consistent := by
  have hpre : (b.setPre 0).Consistent := h.setPre h.apsc_pos
  obtain ⟨-, e⟩ | ⟨-, hp, e⟩ | ⟨-, -, hc, e⟩ | ⟨-, e⟩ := clk_cases free b <;> rw [e]
  · exact h
  · exact h.setPre fun hen => increment_lt free (h.pre_lt_apsc hen) (preAtEnd_eq_false_iff.mp hp)
  · exact hpre.setCnt fun hen => increment_lt free (h.cnt_lt_cmp hen) (cntAtEnd_eq_false_iff.mp hc)
  · exact hpre.setCnt h.cmp_pos

/-- Every instruction keeps R37: the commands by their own lemmas, the others write no register R37 speaks of. -/
theorem Block.Consistent.instrBlock (h : b.Consistent) (i : Instr) : (instrBlock i b).Consistent := by
  cases i with
  | cmdConfigure => exact h.configure
  | cmdDisable => exact h.disarm
  | wrClkhz | wrPsc | wrBaud | wrOvr | wrOvrctl => exact h
  | rdTake => exact h
  | rdClkhz | rdPsc | rdBaud | rdOvr | rdOvrctl | rdCalc | rdStatus | rdCmp | rdCnt | rdApsc => exact h

end

/-- Settles O26, by the four kinds of event a step can run. -/
theorem everyStepKeepsConsistency : Obligations.EveryStepKeepsConsistency := by
  intro s t h hstep
  obtain ⟨-, rfl⟩ | ⟨-, rfl⟩ | ⟨w, i, -, -, rfl⟩ | ⟨w, c, -, -, rfl⟩ := step_next hstep
  · exact h.clk _
  · exact reset_consistent
  · exact h.instrBlock i
  · exact h

/-- Settles O27: EN and HALTED are 0 after reset, and so is CAUSE. -/
theorem resetIsConsistent : Obligations.ResetIsConsistent :=
  reset_consistent

end Sys2Proof.Machine
end

section
/-! The reads and the profile writes of the window, from what an instruction leaves of the machine (`exec_eq`): a plain
read gives a response alone, and a profile write reaches no register of the timer (R57, R63). -/

namespace Sys2Proof.Machine

/-- What an instruction that completes left. -/
theorem exec_next {i : Instr} {s t : State} (h : exec i s = .next t) :
    t = { s with block := instrBlock i s.block, response := some (instrResponse i s.block) } := by
  rw [exec_eq] at h
  exact (Host.Outcome.next.inj h).symm

theorem instrBlock_of_isPlainRead {i : Instr} (h : isPlainRead i = true) (b : Block) : instrBlock i b = b := by
  cases i with
  | rdClkhz | rdPsc | rdBaud | rdOvr | rdOvrctl | rdCalc | rdStatus | rdCmp | rdCnt | rdApsc => rfl
  | wrClkhz | wrPsc | wrBaud | wrOvr | wrOvrctl | cmdConfigure | cmdDisable | rdTake => cases h

/-- Settles O5: the block after the read is the block before it, so the second read answers from the same registers. -/
theorem plainReadsAreIdempotent : Obligations.PlainReadsAreIdempotent := by
  intro i s t hi h
  have hblock := instrBlock_of_isPlainRead hi s.block
  obtain rfl := exec_next h
  exact ⟨hblock, rfl, rfl, rfl, by rw [exec_eq]; simp only [hblock]⟩

theorem isProfileWrite_cases {i : Instr} (h : isProfileWrite i = true) :
    ∃ d, i = .wrClkhz d ∨ i = .wrPsc d ∨ i = .wrBaud d ∨ i = .wrOvr d ∨ i = .wrOvrctl d := by
  cases i with
  | wrClkhz d | wrPsc d | wrBaud d | wrOvr d | wrOvrctl d => exact ⟨d, by simp⟩
  | rdClkhz | rdPsc | rdBaud | rdOvr | rdOvrctl | rdCalc | rdStatus | rdCmp | rdCnt | rdApsc | rdTake => cases h
  | cmdConfigure | cmdDisable => cases h

section

variable {i : Instr}

theorem instrResponse_of_isProfileWrite (h : isProfileWrite i = true) (b : Block) : instrResponse i b = .ok := by
  obtain ⟨d, rfl | rfl | rfl | rfl | rfl⟩ := isProfileWrite_cases h <;> rfl

/-- A profile write reaches none of the active registers, the counter, the enable and the tick flag (R63). -/
theorem instrBlock_timer_of_isProfileWrite (h : isProfileWrite i = true) (b : Block) :
    (instrBlock i b).cmp = b.cmp ∧ (instrBlock i b).apsc = b.apsc ∧ (instrBlock i b).cnt = b.cnt ∧
      (instrBlock i b).pre = b.pre ∧ (instrBlock i b).en = b.en ∧ (instrBlock i b).f = b.f := by
  obtain ⟨d, rfl | rfl | rfl | rfl | rfl⟩ := isProfileWrite_cases h <;> exact ⟨rfl, rfl, rfl, rfl, rfl, rfl⟩

/-- A profile write and a CLK step commute on the block: no test of the CLK step reads a profile register, and no
branch of it writes one. -/
theorem instrBlock_clk_of_isProfileWrite (h : isProfileWrite i = true) (free : Half) (b : Block) :
    instrBlock i (b.clk free) = (instrBlock i b).clk free := by
  unfold Block.clk Block.pTick
  simp only [apply_ite (instrBlock i)]
  obtain ⟨d, rfl | rfl | rfl | rfl | rfl⟩ := isProfileWrite_cases h <;> rfl

theorem decode_writeTxn (r : Reg) (d : Word) : decode (writeTxn r d) = decodeWrite r d := by
  rw [writeTxn, decode_mkTxn, decodeFields_offset, if_pos rfl]

theorem decode_encode_of_isProfileWrite (h : isProfileWrite i = true) : decode (encode i) = .instr i := by
  obtain ⟨d, rfl | rfl | rfl | rfl | rfl⟩ := isProfileWrite_cases h <;> exact decode_writeTxn _ d

end

/-- Settles O6: each write is one register update of the block, and the rest of the machine is as `exec_eq` has it. -/
theorem profileWriteFrame : Obligations.ProfileWriteFrame := by
  refine ⟨?clkhz, ?psc, ?baud, ?ovr, ?ovrctl, ?bookkeeping⟩
  case bookkeeping =>
    intro i s t hi h
    obtain rfl := exec_next h
    exact ⟨congrArg some (instrResponse_of_isProfileWrite hi s.block), rfl, rfl, rfl⟩
  all_goals
    intro d s t h
    obtain rfl := exec_next h
    rfl

end Sys2Proof.Machine
end

section
/-! A profile write beside a running timer (R63): in either order with a CLK step it leaves the same machine, and only
a successful CONFIGURE takes new values to CMP and APSC. -/

namespace Sys2Proof.Machine

section

variable {b : Block}

/-- A CLK step writes PRE, CNT and F alone, so never an active register (R140, R141). -/
theorem clk_cmp_apsc (free : Half) (b : Block) : (b.clk free).cmp = b.cmp ∧ (b.clk free).apsc = b.apsc := by
  obtain ⟨-, e⟩ | ⟨-, -, e⟩ | ⟨-, -, -, e⟩ | ⟨-, e⟩ := clk_cases free b <;> rw [e] <;> exact ⟨rfl, rfl⟩

/-- CONFIGURE changes an active register only where it succeeds, and then takes the verdict and PSC to them (R132). -/
theorem configure_new_cmp_apsc (h : b.configure.cmp ≠ b.cmp ∨ b.configure.apsc ≠ b.apsc) :
    ∃ n, b.halted = false ∧ b.verdict = .tick n ∧ b.configure.cmp = n ∧ b.configure.apsc = b.psc := by
  obtain ⟨-, e⟩ | ⟨c, -, -, e⟩ | ⟨n, hhalted, hverdict, e⟩ := configure_cases b <;> rw [e] at h ⊢
  · simp at h
  · simp at h
  · exact ⟨n, hhalted, hverdict, rfl, rfl⟩

/-- CONFIGURE is the only instruction that can change an active register. -/
theorem instrBlock_cmp_apsc {i : Instr} (h : i ≠ .cmdConfigure) (b : Block) :
    (instrBlock i b).cmp = b.cmp ∧ (instrBlock i b).apsc = b.apsc := by
  cases i with
  | cmdConfigure => exact absurd rfl h
  | wrClkhz | wrPsc | wrBaud | wrOvr | wrOvrctl | cmdDisable | rdTake => exact ⟨rfl, rfl⟩
  | rdClkhz | rdPsc | rdBaud | rdOvr | rdOvrctl | rdCalc | rdStatus | rdCmp | rdCnt | rdApsc => exact ⟨rfl, rfl⟩

/-- Below a register's value the increment fits 16 bits, so it draws on no free value (R11, log entry 5). -/
theorem increment_free_irrel {v bound : Half} (h : v.toNat < bound.toNat) (free free' : Half) :
    increment free v = increment free' v := by
  have hfits : v.toNat + 1 < 2 ^ 16 := by omega
  rw [increment_of_fits free hfits, increment_of_fits free' hfits]

/-- Under R37 a CLK step draws on no free value. -/
theorem Block.Consistent.clk_free_irrel (h : b.Consistent) (free free' : Half) : b.clk free = b.clk free' := by
  cases hrun : b.running with
  | false => simp [Block.clk, hrun]
  | true =>
    have hen : b.en = true := (Bool.and_eq_true_iff.mp hrun).1
    have hpre := increment_free_irrel (h.pre_lt_apsc hen) free free'
    have hcnt := increment_free_irrel (h.cnt_lt_cmp hen) free free'
    simp [Block.clk, Block.pTick, hpre, hcnt]

end

/-- Two steps of a machine whose next events are a HOST instruction and then a CLK step. -/
theorem run_instr_clk (s : State) {w : Txn} {i : Instr} (hd : decode w = .instr i) (rest : List Event) :
    run 2 { s with pending := .host w :: .clk :: rest } = .next
      { s with
        block := (instrBlock i s.block).clk (Config.freeSum (s.steps + 2))
        response := some (instrResponse i s.block), pending := rest, steps := s.steps + 2 } := by
  rw [run_succ 1 (step_instr (nextEvent_cons rfl) hd), run_succ 0 (step_clk (nextEvent_cons rfl))]
  rfl

/-- The same two steps in the other order. -/
theorem run_clk_instr (s : State) {w : Txn} {i : Instr} (hd : decode w = .instr i) (rest : List Event) :
    run 2 { s with pending := .clk :: .host w :: rest } = .next
      { s with
        block := instrBlock i (s.block.clk (Config.freeSum (s.steps + 1)))
        response := some (instrResponse i (s.block.clk (Config.freeSum (s.steps + 1))))
        pending := rest, steps := s.steps + 2 } := by
  rw [run_succ 1 (step_clk (nextEvent_cons rfl)), run_succ 0 (step_instr (nextEvent_cons rfl) hd)]
  rfl

/-- R63's second clause: a profile write and a CLK step give the same machine in either order. R37 makes the CLK step
the same at both counts of steps, and then the two commute on the block. -/
theorem run_profileWrite_clk_comm {i : Instr} (hi : isProfileWrite i = true) {s : State} (hs : s.block.Consistent)
    (rest : List Event) :
    run 2 { s with pending := .host (encode i) :: .clk :: rest } =
      run 2 { s with pending := .clk :: .host (encode i) :: rest } := by
  have hd := decode_encode_of_isProfileWrite hi
  rw [run_instr_clk s hd, run_clk_instr s hd, instrBlock_clk_of_isProfileWrite hi,
    (hs.instrBlock i).clk_free_irrel (Config.freeSum (s.steps + 2)) (Config.freeSum (s.steps + 1)),
    instrResponse_of_isProfileWrite hi, instrResponse_of_isProfileWrite hi]

/-- R63's third clause: a step that changes an active register is a RESET or a successful CONFIGURE. -/
theorem step_new_cmp_apsc {s t : State} (hstep : step s = .next t) (hreset : s.nextEvent ≠ .reset)
    (hnew : t.block.cmp ≠ s.block.cmp ∨ t.block.apsc ≠ s.block.apsc) :
    ∃ w n, s.nextEvent = .host w ∧ decode w = .instr .cmdConfigure ∧ s.block.halted = false ∧
      s.block.verdict = .tick n ∧ t.block.cmp = n ∧ t.block.apsc = s.block.psc := by
  obtain ⟨-, rfl⟩ | ⟨he, -⟩ | ⟨w, i, he, hd, rfl⟩ | ⟨w, c, -, -, rfl⟩ := step_next hstep
  · simp [clk_cmp_apsc] at hnew
  · exact absurd he hreset
  · by_cases hi : i = .cmdConfigure
    · subst hi
      obtain ⟨n, hn⟩ := configure_new_cmp_apsc hnew
      exact ⟨w, n, he, hd, hn⟩
    · simp [instrBlock_cmp_apsc hi] at hnew
  · simp at hnew

/-- Settles O7, clause by clause. -/
theorem profileWriteLeavesRunningTimer : Obligations.ProfileWriteLeavesRunningTimer := by
  refine ⟨fun i s t hi h => ?_, fun i s rest hi hs => ?_, fun s t => step_new_cmp_apsc⟩
  · obtain rfl := exec_next h
    exact instrBlock_timer_of_isProfileWrite hi s.block
  · have hrun := run_clk_instr s (decode_encode_of_isProfileWrite hi) rest
    exact ⟨_, (run_profileWrite_clk_comm hi hs rest).trans hrun, hrun⟩

end Sys2Proof.Machine
end

section
/-! The host's view of the window: `BLOCK_BASE + OFF` and its inverse (R50, R72). -/

namespace Sys2Proof.Machine

theorem offsetOfAddress_hostAddress (off : Offset) : offsetOfAddress (hostAddress off) = some off := by
  have hlt := off.isLt
  rw [offsetOfAddress, hostAddress, if_pos (by omega), Nat.add_sub_cancel_left, BitVec.ofNat_toNat, BitVec.setWidth_eq]

/-- An address that reaches an offset is that offset's own. -/
theorem eq_hostAddress_of_offsetOfAddress {a : Nat} {off : Offset} (h : offsetOfAddress a = some off) :
    a = hostAddress off := by
  rw [offsetOfAddress] at h
  split at h
  · cases h
    rw [hostAddress, BitVec.toNat_ofNat]
    omega
  · cases h

/-- Settles O46: the two functions are inverse to each other, where the second gives an offset at all. -/
theorem hostAddressReachesOffset : Obligations.HostAddressReachesOffset :=
  ⟨offsetOfAddress_hostAddress, fun _ hout =>
    Option.eq_none_iff_forall_ne_some.mpr fun off h => hout off (eq_hostAddress_of_offsetOfAddress h)⟩

end Sys2Proof.Machine
end

section
/-! The decoder on the fields of a word: which words it rejects, and what a legal word is the encoding of (R70 to
R78). -/

namespace Sys2Proof.Machine

section

variable (w : Txn)

/-! The fields of a word as numbers (R70). -/

theorem txnWe_toNat : (txnWe w).toNat = w.toNat / 2 ^ 39 := by
  have hw := w.isLt
  rw [txnWe, BitVec.getLsbD, Nat.toNat_testBit]
  omega

theorem txnOff_toNat : (txnOff w).toNat = w.toNat / 2 ^ 32 % 128 := by
  rw [txnOff, BitVec.extractLsb'_toNat, Nat.shiftRight_eq_div_pow]

theorem txnData_toNat : (txnData w).toNat = w.toNat % 2 ^ 32 := by
  rw [txnData, BitVec.extractLsb'_toNat, Nat.shiftRight_zero]

/-- The mask of a row without DATA keeps WE and OFF and clears DATA (R76). -/
theorem and_anyData : w &&& anyData = mkTxn (txnWe w) (txnOff w) 0 := by
  have h := eq_of_beq (Laws.RowEncoding.covers_anyData "" (txnWe w) (txnOff w) (txnData w))
  rwa [mkTxn_fields] at h

theorem and_wholeWord : w &&& wholeWord = w :=
  BitVec.and_allOnes

end

/-- The index of the register map is the offset in words (R51, R72). -/
theorem regOfIndex_eq_some {n : Nat} {r : Reg} (h : regOfIndex n = some r) : r.offset.toNat = 4 * n := by
  unfold regOfIndex at h
  split at h <;> cases h <;> rfl

theorem regOfIndex_eq_none {n : Nat} (h : regOfIndex n = none) : 12 ≤ n := by
  by_contra hlt
  interval_cases n <;> cases h

section

variable (we : Bool) (d : Word)

/-- R76's first two checks: a word is misaligned, or past the last register, or names a register by its offset. -/
theorem decodeFields_cases (off : Offset) :
    (off.toNat % 4 ≠ 0 ∧ decodeFields we off d = .illegal .misaligned) ∨
    (0x30 ≤ off.toNat ∧ decodeFields we off d = .illegal .unmapped) ∨
    ∃ r : Reg, off = r.offset := by
  have hlow : (off.extractLsb' 0 2).toNat = off.toNat % 4 := by simp
  have hhigh : (off.extractLsb' 2 5).toNat = off.toNat / 4 := by
    have := off.isLt
    simp [Nat.shiftRight_eq_div_pow]
    omega
  unfold decodeFields
  split
  next h => exact .inl ⟨fun h0 => h (BitVec.eq_of_toNat_eq (hlow.trans h0)), rfl⟩
  next h =>
    have haligned : off.toNat % 4 = 0 := by
      rw [← hlow, not_not.mp h]
      rfl
    rw [hhigh]
    split
    next hnone =>
      have := regOfIndex_eq_none hnone
      exact .inr (.inl ⟨by omega, rfl⟩)
    next r hsome =>
      have := regOfIndex_eq_some hsome
      exact .inr (.inr ⟨r, BitVec.eq_of_toNat_eq (by omega)⟩)

theorem decodeFields_write_offset (r : Reg) : decodeFields true r.offset d = decodeWrite r d :=
  decodeFields_offset true r d

theorem decodeFields_read_offset (r : Reg) : decodeFields false r.offset d = decodeRead r :=
  decodeFields_offset false r d

end

/-- The fields of a legal word: OFF is a register's, and WE says which way it is accessed. -/
theorem decodeFields_eq_instr {we : Bool} {off : Offset} {d : Word} {i : Instr}
    (h : decodeFields we off d = .instr i) :
    ∃ r : Reg, off = r.offset ∧
      ((we = true ∧ decodeWrite r d = .instr i) ∨ (we = false ∧ decodeRead r = .instr i)) := by
  obtain ⟨-, e⟩ | ⟨-, e⟩ | ⟨r, rfl⟩ := decodeFields_cases we d off
  · rw [e] at h; cases h
  · rw [e] at h; cases h
  · cases we with
    | true => exact ⟨r, rfl, .inl ⟨rfl, decodeFields_write_offset d r ▸ h⟩⟩
    | false => exact ⟨r, rfl, .inr ⟨rfl, decodeFields_read_offset d r ▸ h⟩⟩

theorem decode_readTxn (r : Reg) : decode (readTxn r) = decodeRead r := by
  rw [readTxn, decode_mkTxn, decodeFields_read_offset]

/-- Settles O37: a register write or read decodes by its own row, and the two command codes differ (R77). -/
theorem decodeOfEncode : Obligations.DecodeOfEncode := by
  intro i
  cases i with
  | wrClkhz d | wrPsc d | wrBaud d | wrOvr d | wrOvrctl d => exact decode_writeTxn _ d
  | cmdConfigure | cmdDisable => exact decode_writeTxn .cmd _
  | rdClkhz | rdPsc | rdBaud | rdOvr | rdOvrctl | rdCalc | rdStatus | rdCmp | rdCnt | rdApsc | rdTake =>
    exact decode_readTxn _

theorem decodeCommand_eq_instr {d : Word} {i : Instr} (h : decodeCommand d = .instr i) :
    (d = configureCode ∧ i = .cmdConfigure) ∨ (d = disableCode ∧ i = .cmdDisable) := by
  unfold decodeCommand at h
  split at h
  next hd => cases h; exact .inl ⟨hd, rfl⟩
  next =>
    split at h
    next hd => cases h; exact .inr ⟨hd, rfl⟩
    next => cases h

theorem encode_of_decodeWrite {r : Reg} {d : Word} {i : Instr} (h : decodeWrite r d = .instr i) :
    encode i = writeTxn r d := by
  cases r with
  | cmd => obtain ⟨rfl, rfl⟩ | ⟨rfl, rfl⟩ := decodeCommand_eq_instr h <;> rfl
  | clkhz | psc | baud | ovr | ovrctl => cases h; rfl
  | _ => cases h

theorem encode_of_decodeRead {r : Reg} {i : Instr} (h : decodeRead r = .instr i) : encode i = readTxn r := by
  cases r with
  | cmd => cases h
  | _ => cases h; rfl

/-- A legal word is the encoding of what it decodes to, a read with its DATA cleared (R73, R76). -/
theorem encode_of_decode {w : Txn} {i : Instr} (h : decode w = .instr i) :
    encode i = if txnWe w then w else w &&& anyData := by
  obtain ⟨r, hoff, ⟨hwe, hr⟩ | ⟨hwe, hr⟩⟩ := decodeFields_eq_instr h
  · rw [if_pos hwe, encode_of_decodeWrite hr, writeTxn, ← hwe, ← hoff, mkTxn_fields]
  · rw [if_neg (by simp [hwe]), encode_of_decodeRead hr, readTxn, and_anyData, hwe, hoff]

/-- Settles O38, by WE: `encode_of_decode` has the two cases. -/
theorem legalWordIsItsEncoding : Obligations.LegalWordIsItsEncoding := by
  intro w i h
  have hencode := encode_of_decode h
  exact ⟨fun hwe => hencode.trans (if_pos hwe), fun hwe => hencode.trans (if_neg (Bool.eq_false_iff.mp hwe))⟩

/-- A read looks at no bit of DATA (R73). -/
theorem decodeFields_read (off : Offset) (d d' : Word) : decodeFields false off d = decodeFields false off d' := rfl

/-- Settles O39: the two words agree on OFF and on WE, which is 0. -/
theorem readIgnoresData : Obligations.ReadIgnoresData := by
  intro w w' hsame hread
  have hoff : txnOff w = txnOff w' := BitVec.eq_of_toNat_eq (by rw [txnOff_toNat, txnOff_toNat, hsame])
  have hwe : txnWe w = false := Bool.toNat_eq_zero.mp (by rw [txnWe_toNat, hread])
  have hwe' : txnWe w' = false := Bool.toNat_eq_zero.mp (by rw [txnWe_toNat]; omega)
  rw [decode, decode, hwe, hwe', hoff, decodeFields_read]

end Sys2Proof.Machine
end

section
/-! The rows of the opcode table: a row covers exactly the words that decode to an instruction of that row (R76,
R84). -/

namespace Sys2Proof.Machine

/-- The word of an instruction lies in the instruction's own row (R76). -/
theorem covers_rowOf_encode (i : Instr) : (rowOf i).covers (encode i) = true := by
  cases i with
  | wrClkhz d | wrPsc d | wrBaud d | wrOvr d | wrOvrctl d => exact Laws.RowEncoding.covers_anyData _ true _ d
  | cmdConfigure | cmdDisable => rfl
  | rdClkhz | rdPsc | rdBaud | rdOvr | rdOvrctl | rdCalc | rdStatus | rdCmp | rdCnt | rdApsc | rdTake => rfl

theorem covers_rowOf_iff {i : Instr} {w : Txn} :
    (rowOf i).covers w = true ↔ w &&& (rowOf i).mask = encode i &&& (rowOf i).mask := by
  rw [Row.covers, beq_iff_eq, eq_of_beq (covers_rowOf_encode i)]

/-- A row looks at WE and OFF alone, or it is a command's and looks at the whole word (R76, R77). -/
theorem rowOf_mask (i : Instr) :
    (rowOf i).mask = anyData ∨ ((rowOf i).mask = wholeWord ∧ txnWe (encode i) = true) := by
  cases i with
  | cmdConfigure | cmdDisable => exact .inr ⟨rfl, rfl⟩
  | wrClkhz | wrPsc | wrBaud | wrOvr | wrOvrctl => exact .inl rfl
  | rdClkhz | rdPsc | rdBaud | rdOvr | rdOvrctl | rdCalc | rdStatus | rdCmp | rdCnt | rdApsc | rdTake => exact .inl rfl

/-- The encoding of a legal word differs from it in the DATA of a read alone, which no row of a read looks at (R73). -/
theorem covers_of_decode {w : Txn} {i : Instr} (h : decode w = .instr i) : (rowOf i).covers w = true := by
  have hencode := encode_of_decode h
  rw [covers_rowOf_iff]
  split at hencode
  next => rw [hencode]
  next hread =>
    obtain hmask | ⟨-, hwe⟩ := rowOf_mask i
    · rw [hencode, hmask, BitVec.and_assoc, BitVec.and_self]
    · rw [hencode, and_anyData, txnWe_mkTxn] at hwe
      exact absurd hwe hread

/-- Where DATA is outside the row's mask, another DATA gives an instruction of the same row. -/
theorem decodeFields_same_row {we : Bool} {off : Offset} {d : Word} {i : Instr}
    (h : decodeFields we off d = .instr i) (hmask : (rowOf i).mask = anyData) (d' : Word) :
    ∃ i', decodeFields we off d' = .instr i' ∧ rowOf i' = rowOf i := by
  obtain ⟨r, rfl, ⟨rfl, hr⟩ | ⟨rfl, -⟩⟩ := decodeFields_eq_instr h
  · rw [decodeFields_write_offset]
    cases r with
    | cmd => obtain ⟨-, rfl⟩ | ⟨-, rfl⟩ := decodeCommand_eq_instr hr <;> exact absurd hmask (by decide)
    | clkhz | psc | baud | ovr | ovrctl => cases hr; exact ⟨_, rfl, rfl⟩
    | _ => cases hr
  · exact ⟨i, h, rfl⟩

/-- A row covers exactly the words that decode to an instruction of that row. -/
theorem covers_iff_decode {j : Instr} {w : Txn} :
    (rowOf j).covers w = true ↔ ∃ i, decode w = .instr i ∧ rowOf i = rowOf j := by
  refine ⟨fun h => ?_, fun ⟨i, hd, hrow⟩ => hrow ▸ covers_of_decode hd⟩
  have hj : decode (encode j) = .instr j := decodeOfEncode j
  rw [covers_rowOf_iff] at h
  obtain hmask | ⟨hmask, -⟩ := rowOf_mask j <;> rw [hmask] at h
  · rw [and_anyData, and_anyData] at h
    have hwe : txnWe w = txnWe (encode j) := by simpa using congrArg txnWe h
    have hoff : txnOff w = txnOff (encode j) := by simpa using congrArg txnOff h
    rw [decode, hwe, hoff]
    exact decodeFields_same_row hj hmask (txnData w)
  · rw [and_wholeWord, and_wholeWord] at h
    exact ⟨j, h ▸ hj, rfl⟩

theorem opcodeTable_nodup : opcodeTable.Nodup := by
  decide

theorem rowOf_mem_opcodeTable (i : Instr) : rowOf i ∈ opcodeTable := by
  cases i <;> simp [opcodeTable, instrKinds, rowOf]

theorem filter_covers_of_instr {w : Txn} {i : Instr} (h : decode w = .instr i) :
    opcodeTable.filter (fun r => r.covers w) = [rowOf i] := by
  have hcovers : ∀ r ∈ opcodeTable, r.covers w = (r == rowOf i) := by
    intro r hr
    obtain ⟨j, -, rfl⟩ := List.mem_map.mp hr
    rw [Bool.eq_iff_iff, covers_iff_decode, beq_iff_eq]
    simp [h, eq_comm]
  rw [List.filter_congr hcovers, List.filter_beq,
    List.count_eq_one_of_mem opcodeTable_nodup (rowOf_mem_opcodeTable i), List.replicate_one]

theorem filter_covers_of_illegal {w : Txn} {c : BusCause} (h : decode w = .illegal c) :
    opcodeTable.filter (fun r => r.covers w) = [] := by
  refine List.filter_eq_nil_iff.mpr fun r hr hcovers => ?_
  obtain ⟨j, -, rfl⟩ := List.mem_map.mp hr
  obtain ⟨i, hd, -⟩ := covers_iff_decode.mp hcovers
  rw [h] at hd
  cases hd

/-- Settles O40, by what the word decodes to. -/
theorem eachWordHasOneRowOrIsIllegal : Obligations.EachWordHasOneRowOrIsIllegal := by
  intro w
  cases h : decode w with
  | instr i => exact .inl ⟨i, rfl, filter_covers_of_instr h⟩
  | illegal c => exact .inr ⟨c, rfl, filter_covers_of_illegal h⟩

end Sys2Proof.Machine
end

section
/-! The illegal words (R78), and what they do to the machine (R200, R201). -/

namespace Sys2Proof.Machine

/-- R78, item by item, on the fields of a word as numbers. -/
def IllegalFields (we off data : Nat) : Prop :=
  off % 4 ≠ 0 ∨ 0x30 ≤ off ∨
    (we = 1 ∧ (off = 0x14 ∨ off = 0x1C ∨ off = 0x20 ∨ off = 0x24 ∨ off = 0x28 ∨ off = 0x2C)) ∨
    (we = 0 ∧ off = 0x18) ∨ (we = 1 ∧ off = 0x18 ∧ data ≠ 1 ∧ data ≠ 2)

/-- The command codes, told apart as numbers (R77). -/
theorem decodeCommand_eq (d : Word) :
    decodeCommand d =
      if d.toNat = 1 then .instr .cmdConfigure
      else if d.toNat = 2 then .instr .cmdDisable else .illegal .unknownCommand := by
  simp only [decodeCommand, ← BitVec.toNat_inj]
  rfl

theorem decodeWrite_isIllegal_iff (r : Reg) (d : Word) :
    (∃ c, decodeWrite r d = .illegal c) ↔ IllegalFields 1 r.offset.toNat d.toNat := by
  cases r with
  | cmd =>
    rw [decodeWrite, decodeCommand_eq]
    split_ifs <;> simp [IllegalFields, Reg.offset, *]
  | _ => simp [decodeWrite, IllegalFields, Reg.offset]

theorem decodeRead_isIllegal_iff (r : Reg) (data : Nat) :
    (∃ c, decodeRead r = .illegal c) ↔ IllegalFields 0 r.offset.toNat data := by
  cases r <;> simp [decodeRead, IllegalFields, Reg.offset]

/-- R78: a word is illegal exactly by one of the items (a) to (e). -/
theorem decode_isIllegal_iff (w : Txn) :
    (∃ c, decode w = .illegal c) ↔
      IllegalFields (txnWe w).toNat (txnOff w).toNat (txnData w).toNat := by
  rw [decode]
  obtain ⟨h, e⟩ | ⟨h, e⟩ | ⟨r, h⟩ := decodeFields_cases (txnWe w) (txnData w) (txnOff w)
  · rw [e]; exact iff_of_true ⟨_, rfl⟩ (.inl h)
  · rw [e]; exact iff_of_true ⟨_, rfl⟩ (.inr (.inl h))
  · rw [h]
    cases txnWe w with
    | true => rw [decodeFields_write_offset]; exact decodeWrite_isIllegal_iff r _
    | false => rw [decodeFields_read_offset]; exact decodeRead_isIllegal_iff r _

theorem instrResponse_ne_busError (i : Instr) (b : Block) : instrResponse i b ≠ .busError := by
  cases i <;> exact nofun

section

variable {s : State} {w : Txn}

/-- An illegal word changes no state of the block, and its OFF and WE are recorded once more (R200, R201). -/
theorem step_of_illegalFields (he : s.nextEvent = .host w)
    (h : IllegalFields (txnWe w).toNat (txnOff w).toNat (txnData w).toNat) :
    ∃ t, step s = .next t ∧ t.block = s.block ∧ t.response = some .busError ∧
      t.faults.count { off := txnOff w, we := txnWe w } =
        s.faults.count { off := txnOff w, we := txnWe w } + 1 := by
  obtain ⟨c, hd⟩ := (decode_isIllegal_iff w).mpr h
  refine ⟨_, step_illegal he hd, rfl, rfl, ?_⟩
  rw [State.after_faults, List.count_append, List.count_singleton_self]

/-- A legal word raises no BusError (R200). -/
theorem step_of_not_illegalFields (he : s.nextEvent = .host w)
    (h : ¬ IllegalFields (txnWe w).toNat (txnOff w).toNat (txnData w).toNat) :
    ∃ t, step s = .next t ∧ t.response ≠ some .busError ∧ t.faults = s.faults := by
  cases hd : decode w with
  | instr i =>
    exact ⟨_, step_instr he hd, fun e => instrResponse_ne_busError i s.block (Option.some.inj e), rfl⟩
  | illegal c => exact absurd ((decode_isIllegal_iff w).mp ⟨c, hd⟩) h

end

/-- Settles O41: the numbers of the statement are the fields of the word. -/
theorem busErrorExactlyOnIllegalWords : Obligations.BusErrorExactlyOnIllegalWords := by
  intro s w we off data he hwe hoff hdata
  rw [← txnWe_toNat] at hwe
  rw [← txnOff_toNat] at hoff
  rw [← txnData_toNat] at hdata
  subst hwe hoff hdata
  have hentry : ({ off := BitVec.ofNat 7 (txnOff w).toNat, we := decide ((txnWe w).toNat = 1) } : BusFault) =
      { off := txnOff w, we := txnWe w } := by simp
  rw [hentry]
  exact ⟨step_of_illegalFields he, step_of_not_illegalFields he⟩

end Sys2Proof.Machine
end

section
/-! The operand of a write and the RDATA of a read, as numbers (R74, R75). -/

namespace Sys2Proof.Machine

theorem halfOperand_eq (d : Word) : halfOperand d = BitVec.ofNat 16 (d.toNat % 65536) := by
  apply BitVec.eq_of_toNat_eq
  simp [halfOperand]

theorem bitOperand_eq (d : Word) : bitOperand d = decide (d.toNat % 2 = 1) := by
  rw [bitOperand, BitVec.getLsbD, Nat.testBit_zero]

/-- Settles O3: each write is one register update (`exec_eq`), its operand taken from DATA as the two lemmas above
say. -/
theorem writesTakeTheirDataBits : Obligations.WritesTakeTheirDataBits := by
  refine ⟨fun d => exec_eq (.wrClkhz d), fun d => exec_eq (.wrOvr d), fun d s => ?_, fun d s => ?_, fun d s => ?_,
    fun d => ?_⟩
  · rw [exec_eq, ← halfOperand_eq]; rfl
  · rw [exec_eq, ← halfOperand_eq]; rfl
  · rw [exec_eq, ← bitOperand_eq]; rfl
  · rw [decode_writeTxn]; exact decodeCommand_eq d

theorem toNat_append_eq_add {m n : Nat} (x : BitVec m) (y : BitVec n) :
    (x ++ y).toNat = 2 ^ n * x.toNat + y.toNat := by
  rw [BitVec.toNat_append, ← Nat.shiftLeft_add_eq_or_of_lt y.isLt, Nat.shiftLeft_eq, Nat.mul_comm]

theorem toNat_ofBool_eq_ite (v : Bool) : (BitVec.ofBool v).toNat = if v then 1 else 0 := by
  cases v <;> rfl

theorem halfRdata_toNat (v : Half) : (halfRdata v).toNat = v.toNat :=
  BitVec.toNat_setWidth_of_le (by decide)

theorem bitRdata_toNat (v : Bool) : (bitRdata v).toNat = if v then 1 else 0 :=
  (BitVec.toNat_setWidth_of_le (by decide)).trans (toNat_ofBool_eq_ite v)

theorem statusRdata_toNat (cause : BitVec 3) (halted en : Bool) :
    (statusRdata cause halted en).toNat =
      4 * cause.toNat + (if halted then 2 else 0) + (if en then 1 else 0) := by
  rw [statusRdata, BitVec.toNat_setWidth_of_le (by decide), toNat_append_eq_add, toNat_append_eq_add,
    toNat_ofBool_eq_ite, toNat_ofBool_eq_ite]
  split_ifs <;> omega

theorem calcRdata_toNat (err : Bool) (cause : BitVec 3) (tick : Half) :
    (calcRdata err cause tick).toNat = (if err then 2 ^ 31 else 0) + 2 ^ 16 * cause.toNat + tick.toNat := by
  have hreserved : (0 : BitVec 12).toNat = 0 := rfl
  rw [calcRdata, toNat_append_eq_add, toNat_append_eq_add, toNat_append_eq_add, toNat_ofBool_eq_ite, hreserved]
  split_ifs <;> omega

theorem verdictRdata_toNat (v : Verdict) :
    (verdictRdata v).toNat =
      (if v.causeCode = 0 then 0 else 2 ^ 31) + 2 ^ 16 * v.causeCode.toNat + v.tickValue.toNat := by
  rw [verdictRdata, calcRdata_toNat]
  simp

/-- Settles O4: a read's response is its RDATA (`exec_eq`), whose value as a number the lemmas above give. -/
theorem readsAssembleTheirRdata : Obligations.ReadsAssembleTheirRdata := by
  intro s
  have hexec (i : Instr) := exec_eq i s
  exact ⟨⟨_, hexec .rdClkhz, rfl⟩, ⟨_, hexec .rdOvr, rfl⟩,
    ⟨_, hexec .rdPsc, halfRdata_toNat _⟩, ⟨_, hexec .rdBaud, halfRdata_toNat _⟩, ⟨_, hexec .rdCmp, halfRdata_toNat _⟩,
    ⟨_, hexec .rdCnt, halfRdata_toNat _⟩, ⟨_, hexec .rdApsc, halfRdata_toNat _⟩,
    ⟨_, hexec .rdOvrctl, bitRdata_toNat _⟩, ⟨_, hexec .rdStatus, statusRdata_toNat _ _ _⟩,
    ⟨_, hexec .rdCalc, verdictRdata_toNat _⟩, ⟨_, hexec .rdTake, bitRdata_toNat _⟩⟩

/-- Settles O42: the words are literals, and the decoder is evaluated on each. -/
theorem sampleWordsDecode : Obligations.SampleWordsDecode := by
  unfold Obligations.SampleWordsDecode
  decide

end Sys2Proof.Machine
end

section
/-! The pseudo-instructions that arm the timer (R82): the words they assemble to, run one after another. -/

namespace Sys2Proof.Machine

section

variable {b : Block} {t : Half}

theorem configure_eq_arm (hverdict : b.verdict = .tick t) (hhalted : b.halted = false) : b.configure = b.arm t := by
  simp [Block.configure, hhalted, hverdict]

theorem rangeCheck_of_legal {n : Nat} (hpos : 1 ≤ n) (hmax : n ≤ 65535) :
    rangeCheck n = .tick (BitVec.ofNat 16 n) := by
  obtain ⟨h, -⟩ | ⟨-, -, e⟩ | ⟨h, -⟩ := rangeCheck_cases n
  · omega
  · exact e
  · omega

/-- With the override present, the verdict is the range check of OVR (R106). -/
theorem verdict_override (hpsc : b.psc ≠ 0) (hen : b.ovrEn = true) : b.verdict = rangeCheck b.ovr.toNat := by
  rw [Block.verdict, tickCalc, if_neg hpsc, if_pos hen]

/-- Without it, the verdict is the range check of the rounded ratio (R102, R104). -/
theorem verdict_computed (hpsc : b.psc ≠ 0) (hbaud : b.baud ≠ 0) (hen : b.ovrEn = false) :
    b.verdict = rangeCheck (roundedRatio b.clkhz.toNat (b.psc.toNat * b.baud.toNat)) := by
  rw [Block.verdict, tickCalc, if_neg hpsc, if_neg (Bool.eq_false_iff.mp hen), if_neg hbaud]

end

/-! A value in 1 to 65535 as an operand. -/

theorem halfOperand_ofNat (n : Nat) : halfOperand (BitVec.ofNat 32 n) = BitVec.ofNat 16 n := by
  rw [halfOperand_eq]
  apply BitVec.eq_of_toNat_eq
  simp

theorem half_ofNat_toNat {n : Nat} (hmax : n ≤ 65535) : (BitVec.ofNat 16 n).toNat = n :=
  Nat.mod_eq_of_lt (Nat.lt_succ_of_le hmax)

theorem half_ofNat_ne_zero {n : Nat} (hpos : 1 ≤ n) (hmax : n ≤ 65535) : BitVec.ofNat 16 n ≠ 0 := by
  intro h
  have hzero : n = 0 := (half_ofNat_toNat hmax).symm.trans (congrArg BitVec.toNat h)
  omega

/-- What a step at a HOST word that decodes to `i` leaves (`step_instr`). -/
def State.afterInstr (s : State) (i : Instr) : State :=
  s.after (instrBlock i s.block) (some (instrResponse i s.block)) s.faults

/-- The HOST steps that issue these instructions. -/
def hostEvents (is : List Instr) : List Event :=
  is.map fun i => .host (encode i)

/-- A run at the words of a list of instructions runs the instructions in order. -/
theorem run_hostEvents (is : List Instr) {s : State} {rest : List Event} (h : s.pending = hostEvents is ++ rest) :
    run (hostEvents is).length s = .next (is.foldl State.afterInstr s) := by
  induction is generalizing s with
  | nil => rfl
  | cons i is ih =>
    have hstep : step s = .next (s.afterInstr i) := step_instr (nextEvent_cons h) (decodeOfEncode i)
    have hpending : (s.afterInstr i).pending = hostEvents is ++ rest := congrArg List.tail h
    exact (run_succ _ hstep).trans (ih hpending)

theorem pending_foldl_afterInstr (is : List Instr) {s : State} {rest : List Event}
    (h : s.pending = hostEvents is ++ rest) : (is.foldl State.afterInstr s).pending = rest := by
  induction is generalizing s with
  | nil => exact h
  | cons i is ih => exact ih (congrArg List.tail h)

/-- A line that writes a profile register goes before the rest of the program. -/
theorem assembleLines_wr_cons {r : Reg} {n : Nat} {ls : List Line} {es : List Event}
    (hr : assemblyWritable r = true) (hn : n < 2 ^ 32) (hls : assembleLines ls = some es) :
    assembleLines (.wr r n :: ls) = some (.host (writeTxn r (BitVec.ofNat 32 n)) :: es) := by
  rw [assembleLines, hls, Line.assemble, hr, decide_eq_true hn]
  rfl

/-- The instructions of CONFIG_TICK (R82). -/
def configTickInstrs (tick psc : Nat) : List Instr :=
  [.wrPsc (BitVec.ofNat 32 psc), .wrOvr (BitVec.ofNat 32 tick), .wrOvrctl 1, .cmdConfigure]

theorem assemble_configTick {tick psc : Nat} (htick : tick < 2 ^ 32) (hpsc : psc < 2 ^ 32) :
    assembleLines (Pseudo.configTick tick psc).expand = some (hostEvents (configTickInstrs tick psc)) :=
  assembleLines_wr_cons rfl hpsc (assembleLines_wr_cons rfl htick rfl)

/-- The block CONFIG_TICK finds at its CONFIGURE: the override and the prescaler are staged. -/
def Block.stageTick (b : Block) (tick psc : Nat) : Block :=
  { b with psc := BitVec.ofNat 16 psc, ovr := BitVec.ofNat 32 tick, ovrEn := true }

theorem verdict_stageTick {tick psc : Nat} (b : Block) (htick : 1 ≤ tick) (htick' : tick ≤ 65535) (hpsc : 1 ≤ psc)
    (hpsc' : psc ≤ 65535) : (b.stageTick tick psc).verdict = .tick (BitVec.ofNat 16 tick) := by
  have hovr : (BitVec.ofNat 32 tick).toNat = tick := Nat.mod_eq_of_lt (by omega)
  rw [verdict_override (half_ofNat_ne_zero hpsc hpsc') rfl, Block.stageTick, hovr, rangeCheck_of_legal htick htick']

theorem block_configTick (s : State) (tick psc : Nat) :
    ((configTickInstrs tick psc).foldl State.afterInstr s).block = (s.block.stageTick tick psc).configure := by
  rw [Block.stageTick, ← halfOperand_ofNat]
  rfl

/-- Settles O47: the four words run in order, and CONFIGURE then takes OVR, which passes the range check. -/
theorem configTickArmsTimer : Obligations.ConfigTickArmsTimer := by
  intro tick psc htick htick' hpsc hpsc'
  refine ⟨_, assemble_configTick (by omega) (by omega), fun s rest h hhalted => ?_⟩
  refine ⟨_, run_hostEvents _ h, pending_foldl_afterInstr _ h, rfl, rfl, ?_⟩
  rw [block_configTick, configure_eq_arm (verdict_stageTick s.block htick htick' hpsc hpsc') hhalted]
  rfl

/-- The instructions of CONFIG_PROFILE (R82). -/
def configProfileInstrs (clk psc baud : Nat) : List Instr :=
  [.wrClkhz (BitVec.ofNat 32 clk), .wrPsc (BitVec.ofNat 32 psc), .wrBaud (BitVec.ofNat 32 baud), .wrOvrctl 0,
    .cmdConfigure]

theorem assemble_configProfile {clk psc baud : Nat} (hclk : clk < 2 ^ 32) (hpsc : psc < 2 ^ 32)
    (hbaud : baud < 2 ^ 32) :
    assembleLines (Pseudo.configProfile clk psc baud).expand =
      some (hostEvents (configProfileInstrs clk psc baud)) :=
  assembleLines_wr_cons rfl hclk (assembleLines_wr_cons rfl hpsc (assembleLines_wr_cons rfl hbaud rfl))

/-- The block CONFIG_PROFILE finds at its CONFIGURE: the profile is staged, with no override. -/
def Block.stageProfile (b : Block) (clk psc baud : Nat) : Block :=
  { b with
    clkhz := BitVec.ofNat 32 clk, psc := BitVec.ofNat 16 psc, baud := BitVec.ofNat 16 baud, ovrEn := false }

theorem verdict_stageProfile {clk psc baud : Nat} (b : Block) (hclk : clk < 2 ^ 32) (hpsc : 1 ≤ psc)
    (hpsc' : psc ≤ 65535) (hbaud : 1 ≤ baud) (hbaud' : baud ≤ 65535) (hpos : 1 ≤ roundedRatio clk (psc * baud))
    (hmax : roundedRatio clk (psc * baud) ≤ 65535) :
    (b.stageProfile clk psc baud).verdict = .tick (BitVec.ofNat 16 (roundedRatio clk (psc * baud))) := by
  have hclkhz : (BitVec.ofNat 32 clk).toNat = clk := Nat.mod_eq_of_lt hclk
  rw [verdict_computed (half_ofNat_ne_zero hpsc hpsc') (half_ofNat_ne_zero hbaud hbaud') rfl, Block.stageProfile,
    hclkhz, half_ofNat_toNat hpsc', half_ofNat_toNat hbaud', rangeCheck_of_legal hpos hmax]

theorem block_configProfile (s : State) (clk psc baud : Nat) :
    ((configProfileInstrs clk psc baud).foldl State.afterInstr s).block =
      (s.block.stageProfile clk psc baud).configure := by
  rw [Block.stageProfile, ← halfOperand_ofNat, ← halfOperand_ofNat]
  rfl

/-- Settles O48: the five words run in order, and CONFIGURE then takes the rounded ratio, which is in range. -/
theorem configProfileArmsTimer : Obligations.ConfigProfileArmsTimer := by
  intro clk psc baud n hclk hpsc hpsc' hbaud hbaud' hn hpos hmax
  change n = roundedRatio clk (psc * baud) at hn
  subst hn
  refine ⟨_, assemble_configProfile hclk (by omega) (by omega), fun s rest h hhalted => ?_⟩
  refine ⟨_, run_hostEvents _ h, pending_foldl_afterInstr _ h, rfl, rfl, ?_⟩
  rw [block_configProfile,
    configure_eq_arm (verdict_stageProfile s.block hclk hpsc hpsc' hbaud hbaud' hpos hmax) hhalted]
  rfl

end Sys2Proof.Machine
end

section
/-! The rounded ratio of two naturals (R102): between which bounds it lies, and in what it is monotone (R108). -/

namespace Sys2Proof.Machine

section

variable {clkhz d : Nat}

theorem le_roundedRatio_iff (hd : 0 < d) (n : Nat) : n ≤ roundedRatio clkhz d ↔ 2 * n * d ≤ 2 * clkhz + d := by
  rw [roundedRatio, Nat.le_div_iff_mul_le (by omega), Nat.mul_left_comm, ← Nat.mul_assoc]

/-- The count is `n` exactly where it reaches `n` and does not reach `n + 1` (R102). -/
theorem roundedRatio_eq_iff (hd : 0 < d) (n : Nat) :
    roundedRatio clkhz d = n ↔ 2 * n * d ≤ 2 * clkhz + d ∧ 2 * clkhz < 2 * n * d + d := by
  have hnext : 2 * (n + 1) * d = 2 * n * d + d + d := by ring
  have hle := le_roundedRatio_iff (clkhz := clkhz) hd n
  have hlt := le_roundedRatio_iff (clkhz := clkhz) hd (n + 1)
  omega

/-- Settles O10, with the bounds of `roundedRatio_eq_iff`. -/
theorem roundsToNearestAndTieUp : Obligations.RoundsToNearestAndTieUp :=
  fun _ _ n hd => roundedRatio_eq_iff hd n

theorem roundedRatio_mul_self (hd : 0 < d) (n : Nat) : roundedRatio (n * d) d = n := by
  rw [roundedRatio_eq_iff hd, Nat.mul_assoc]
  omega

/-- The rounded ratio is the ratio exactly where the divisor divides the clock (R108). -/
theorem roundedRatio_mul_eq_iff_dvd (hd : 0 < d) : roundedRatio clkhz d * d = clkhz ↔ d ∣ clkhz := by
  refine ⟨Dvd.intro_left _, ?_⟩
  rintro ⟨n, rfl⟩
  rw [Nat.mul_comm d n, roundedRatio_mul_self hd]

/-- A larger clock or a smaller divisor gives no smaller count (R108): `(2n - 1) * d <= 2 * clkhz` only gets easier. -/
theorem roundedRatio_mono {clkhz' d' : Nat} (hclkhz : clkhz ≤ clkhz') (hd' : 0 < d') (hd : d' ≤ d) :
    roundedRatio clkhz d ≤ roundedRatio clkhz' d' := by
  have hratio := (le_roundedRatio_iff (clkhz := clkhz) (hd'.trans_le hd) _).mp le_rfl
  rw [le_roundedRatio_iff hd']
  generalize roundedRatio clkhz d = count at hratio ⊢
  cases count with
  | zero => omega
  | succ n =>
    have hscale : (2 * n + 1) * d' ≤ (2 * n + 1) * d := Nat.mul_le_mul_left _ hd
    have hsplit (e : Nat) : 2 * (n + 1) * e = (2 * n + 1) * e + e := by ring
    rw [hsplit] at hratio ⊢
    omega

end

end Sys2Proof.Machine
end

section
/-! TickCalc, check by check (R104 to R106). -/

namespace Sys2Proof.Machine

section

variable {clkhz ovr : Word} {psc baud t : Half} {ovrEn : Bool}

theorem tickCalc_psc_zero : tickCalc clkhz 0 baud ovr ovrEn = .error .pscInvalid := rfl

theorem tickCalc_override (hpsc : psc ≠ 0) : tickCalc clkhz psc baud ovr true = rangeCheck ovr.toNat :=
  verdict_override (b := { Block.reset with clkhz, psc, baud, ovr, ovrEn := true }) hpsc rfl

theorem tickCalc_baud_zero (hpsc : psc ≠ 0) : tickCalc clkhz psc 0 ovr false = .error .baudZero :=
  if_neg hpsc

theorem tickCalc_computed (hpsc : psc ≠ 0) (hbaud : baud ≠ 0) :
    tickCalc clkhz psc baud ovr false = rangeCheck (roundedRatio clkhz.toNat (psc.toNat * baud.toNat)) :=
  verdict_computed (b := { Block.reset with clkhz, psc, baud, ovr, ovrEn := false }) hpsc hbaud rfl

/-- A computed tick comes with a divisor that is not 0, and is the rounded ratio (R102). -/
theorem tickCalc_computed_tick (h : tickCalc clkhz psc baud ovr false = .tick t) :
    0 < psc.toNat * baud.toNat ∧ roundedRatio clkhz.toNat (psc.toNat * baud.toNat) = t.toNat := by
  obtain ⟨hpsc, ⟨hen, -⟩ | ⟨-, hbaud, hcheck⟩⟩ := tickCalc_tick h
  · cases hen
  · exact ⟨Nat.mul_pos (BitVec.toNat_pos_of_ne_zero hpsc) (BitVec.toNat_pos_of_ne_zero hbaud),
      (rangeCheck_tick hcheck).1.symm⟩

theorem rangeCheck_of_overflow {n : Nat} (h : 65535 < n) : rangeCheck n = .error .tickOverflow := by
  rw [rangeCheck, if_neg (by omega), tickMax, if_pos h]

/-- The pair the range check returns, in its three cases (R103, R104). -/
theorem rangeCheck_pair (n : Nat) :
    (n = 0 → (rangeCheck n).tickValue = 0 ∧ (rangeCheck n).causeCode = 3) ∧
    (65535 < n → (rangeCheck n).tickValue = 0 ∧ (rangeCheck n).causeCode = 4) ∧
    (1 ≤ n → n ≤ 65535 → (rangeCheck n).tickValue.toNat = n ∧ (rangeCheck n).causeCode = 0) := by
  refine ⟨fun h => ?_, fun h => ?_, fun hpos hmax => ?_⟩
  · rw [h]; exact ⟨rfl, rfl⟩
  · rw [rangeCheck_of_overflow h]; exact ⟨rfl, rfl⟩
  · rw [rangeCheck_of_legal hpos hmax]; exact ⟨half_ofNat_toNat hmax, rfl⟩

end

/-- Settles O11: a computed tick is the rounded ratio, whose bounds and monotonicity are known. -/
theorem tickIsWithinHalfAndMonotone : Obligations.TickIsWithinHalfAndMonotone := by
  refine ⟨fun clkhz psc baud ovr t h => ?_, fun c c' p p' b b' hp' hb' hc hp hb => ?_⟩
  · obtain ⟨hd, hratio⟩ := tickCalc_computed_tick h
    obtain ⟨hlow, hhigh⟩ := (roundedRatio_eq_iff hd _).mp hratio
    exact ⟨hlow, hhigh.le, hratio ▸ roundedRatio_mul_eq_iff_dvd hd⟩
  · exact roundedRatio_mono hc (Nat.mul_pos hp' hb') (Nat.mul_le_mul hp hb)

/-- Settles O9: with a prescaler and a source of the count, the pair is that of the range check. -/
theorem tickCalcReportsFirstFailingCheck : Obligations.TickCalcReportsFirstFailingCheck := by
  rintro clkhz psc baud ovr ovrEn v rfl
  refine ⟨?_, ?_, ?_⟩
  · rintro rfl
    exact ⟨rfl, rfl⟩
  · rintro hpsc rfl rfl
    rw [tickCalc_baud_zero hpsc]
    exact ⟨rfl, rfl⟩
  · rintro n hpsc (⟨rfl, rfl⟩ | ⟨rfl, hbaud, rfl⟩)
    · rw [tickCalc_override hpsc]
      exact rangeCheck_pair _
    · rw [tickCalc_computed hpsc hbaud]
      exact rangeCheck_pair _

/-- Settles O13: past the prescaler's check, the verdict is the range check of OVR. -/
theorem overrideTakesPrecedence : Obligations.OverrideTakesPrecedence := by
  intro clkhz clkhz' psc baud baud' ovr
  refine ⟨rfl, ?_, ?_, fun hpsc h => ?_, fun hpsc hpos hmax => ?_⟩
  · rintro rfl
    exact tickCalc_psc_zero
  · rintro hpsc rfl
    exact tickCalc_override hpsc
  · rw [tickCalc_override hpsc, rangeCheck_of_overflow h]
  · rw [tickCalc_override hpsc, rangeCheck_of_legal hpos hmax]

end Sys2Proof.Machine
end

section
/-! R107: at the widths of R100 no intermediate of TickCalc wraps in 34 bits. -/

namespace Sys2Proof.Machine

section

variable (clkhz : Word) (psc baud : Half)

theorem divisor_le : psc.toNat * baud.toNat ≤ 4294836225 :=
  Nat.mul_le_mul (Nat.le_of_lt_succ psc.isLt) (Nat.le_of_lt_succ baud.isLt)

theorem dividend_lt : 2 * clkhz.toNat + psc.toNat * baud.toNat < 2 ^ 34 := by
  have hdivisor := divisor_le psc baud
  omega

/-! The divisor, its double and the dividend, computed in 34 bits. -/

theorem divisor34_toNat : (psc.setWidth 34 * baud.setWidth 34).toNat = psc.toNat * baud.toNat := by
  have hdivisor := divisor_le psc baud
  rw [BitVec.toNat_mul, BitVec.toNat_setWidth_of_le (by decide), BitVec.toNat_setWidth_of_le (by decide)]
  exact Nat.mod_eq_of_lt (by omega)

theorem doubledDivisor34_toNat :
    ((2 : BitVec 34) * (psc.setWidth 34 * baud.setWidth 34)).toNat = 2 * (psc.toNat * baud.toNat) := by
  have hdivisor := divisor_le psc baud
  rw [BitVec.toNat_mul, divisor34_toNat]
  exact Nat.mod_eq_of_lt (show 2 * (psc.toNat * baud.toNat) < 2 ^ 34 by omega)

theorem dividend34_toNat :
    ((2 : BitVec 34) * clkhz.setWidth 34 + psc.setWidth 34 * baud.setWidth 34).toNat =
      2 * clkhz.toNat + psc.toNat * baud.toNat := by
  have hclkhz : ((2 : BitVec 34) * clkhz.setWidth 34).toNat = 2 * clkhz.toNat := by
    rw [BitVec.toNat_mul, BitVec.toNat_setWidth_of_le (by decide)]
    exact Nat.mod_eq_of_lt (show 2 * clkhz.toNat < 2 ^ 34 by omega)
  rw [BitVec.toNat_add, hclkhz, divisor34_toNat]
  exact Nat.mod_eq_of_lt (dividend_lt clkhz psc baud)

theorem roundedRatio34_toNat :
    (((2 : BitVec 34) * clkhz.setWidth 34 + psc.setWidth 34 * baud.setWidth 34) /
      ((2 : BitVec 34) * (psc.setWidth 34 * baud.setWidth 34))).toNat =
      roundedRatio clkhz.toNat (psc.toNat * baud.toNat) := by
  rw [BitVec.toNat_udiv, dividend34_toNat, doubledDivisor34_toNat, roundedRatio]

end

/-- A tick is the override or the rounded ratio, whichever was checked, and in range (R104, R106). -/
theorem tickCalc_tick_toNat {clkhz ovr : Word} {psc baud t : Half} {ovrEn : Bool}
    (h : tickCalc clkhz psc baud ovr ovrEn = .tick t) :
    1 ≤ t.toNat ∧ t.toNat ≤ 65535 ∧
      t.toNat = if ovrEn then ovr.toNat else roundedRatio clkhz.toNat (psc.toNat * baud.toNat) := by
  obtain ⟨-, ⟨rfl, hcheck⟩ | ⟨rfl, -, hcheck⟩⟩ := tickCalc_tick h
  all_goals
    obtain ⟨htick, hpos, hmax⟩ := rangeCheck_tick hcheck
    exact ⟨htick ▸ hpos, htick ▸ hmax, htick⟩

/-- Settles O12: each intermediate is bounded, so the 34-bit operations are those on naturals. -/
theorem thirtyFourBitDividerIsExact : Obligations.ThirtyFourBitDividerIsExact := by
  intro clkhz psc baud
  have hdivisor := divisor_le psc baud
  exact ⟨hdivisor, dividend_lt clkhz psc baud, by omega, fun _ _ => roundedRatio34_toNat clkhz psc baud,
    fun _ _ _ => tickCalc_tick_toNat⟩

end Sys2Proof.Machine
end

section
/-! ClockConfig on integers (R121): its checks one by one, and its agreement with TickCalc on naturals. -/

namespace Sys2Proof.Machine

/-- The baud the integer form rejects: a negative one always, 0 only without the override (R106, R121). -/
abbrev BadBaud (baud : Int) (override : Option Int) : Prop :=
  baud < 0 ∨ baud = 0 ∧ override = none

theorem rangeCheckInt_of_nonpos {t : Int} (h : t ≤ 0) : rangeCheckInt t = .error .tickZero :=
  if_pos h

theorem rangeCheckInt_natCast (n : Nat) : rangeCheckInt n = rangeCheck n := by
  simp only [rangeCheckInt, rangeCheck, Int.natCast_nonpos_iff, Nat.cast_lt, BitVec.ofInt_natCast]

/-- A tick that passes the integer range check is the integer checked, never wrapped (R121). -/
theorem rangeCheckInt_tick {t : Int} {v : Half} (h : rangeCheckInt t = .tick v) : (v.toNat : Int) = t ∧ 1 ≤ t := by
  obtain hneg | hnonneg := lt_or_ge t 0
  · rw [rangeCheckInt_of_nonpos hneg.le] at h
    cases h
  · lift t to Nat using hnonneg with n
    obtain ⟨htick, hpos, -⟩ := rangeCheck_tick ((rangeCheckInt_natCast n).symm.trans h)
    omega

theorem effectiveTickInt_natCast (clkhz psc baud : Nat) :
    effectiveTickInt clkhz psc baud none = (roundedRatio clkhz (psc * baud) : Nat) := by
  rw [roundedRatio, Int.ofNat_fdiv, effectiveTickInt]
  push_cast
  rfl

section

variable {clkhz psc baud : Int} {override : Option Int}

theorem clockConfigInt_of_psc_nonpos (hpsc : psc ≤ 0) :
    clockConfigInt clkhz psc baud override = .error .pscInvalid :=
  if_pos hpsc

theorem clockConfigInt_of_bad_baud (hpsc : 0 < psc) (hbaud : BadBaud baud override) :
    clockConfigInt clkhz psc baud override = .error .baudZero := by
  rw [clockConfigInt, if_neg hpsc.not_ge, if_pos hbaud]

theorem clockConfigInt_of_clkhz_neg (hpsc : 0 < psc) (hbaud : ¬ BadBaud baud override)
    (hclkhz : clkhz < 0) : clockConfigInt clkhz psc baud override = .error .tickZero := by
  rw [clockConfigInt, if_neg hpsc.not_ge, if_neg hbaud, if_pos hclkhz]

theorem clockConfigInt_of_checked (hpsc : 0 < psc) (hbaud : ¬ BadBaud baud override)
    (hclkhz : 0 ≤ clkhz) :
    clockConfigInt clkhz psc baud override = rangeCheckInt (effectiveTickInt clkhz psc baud override) := by
  rw [clockConfigInt, if_neg hpsc.not_ge, if_neg hbaud, if_neg hclkhz.not_gt]

/-- Where the integer form gives a tick, every check before the range check has passed. -/
theorem clockConfigInt_tick {v : Half} (h : clockConfigInt clkhz psc baud override = .tick v) :
    0 < psc ∧ ¬ BadBaud baud override ∧ 0 ≤ clkhz ∧
      rangeCheckInt (effectiveTickInt clkhz psc baud override) = .tick v := by
  unfold clockConfigInt at h
  split_ifs at h with hpsc hbaud hclkhz
  exact ⟨not_le.mp hpsc, hbaud, not_lt.mp hclkhz, h⟩

theorem clockConfigInt_error_of_clkhz_neg (hclkhz : clkhz < 0) :
    ∃ c, clockConfigInt clkhz psc baud override = .error c := by
  cases h : clockConfigInt clkhz psc baud override with
  | error c => exact ⟨c, rfl⟩
  | tick v =>
    obtain ⟨-, -, hnonneg, -⟩ := clockConfigInt_tick h
    exact absurd hclkhz hnonneg.not_gt

theorem clockConfigInt_of_override_neg {t : Int} (hpsc : 0 < psc) (hbaud : 0 ≤ baud) (ht : t < 0) :
    clockConfigInt clkhz psc baud (some t) = .error .tickZero := by
  have hbaud' : ¬ BadBaud baud (some t) := by simpa using hbaud
  obtain hclkhz | hclkhz := lt_or_ge clkhz 0
  · exact clockConfigInt_of_clkhz_neg hpsc hbaud' hclkhz
  · rw [clockConfigInt_of_checked hpsc hbaud' hclkhz]
    exact rangeCheckInt_of_nonpos ht.le

/-- An accepted tick is the override or the rounded ratio as an integer, and every input was in range. -/
theorem clockConfigInt_tick_exact {v : Half} (h : clockConfigInt clkhz psc baud override = .tick v) :
    0 ≤ clkhz ∧ 1 ≤ psc ∧ 0 ≤ baud ∧ 1 ≤ (v.toNat : Int) ∧
      (∀ t, override = some t → (v.toNat : Int) = t) ∧
      (override = none → 1 ≤ baud ∧ (v.toNat : Int) = Int.fdiv (2 * clkhz + psc * baud) (2 * (psc * baud))) := by
  obtain ⟨hpsc, hbaud, hclkhz, hcheck⟩ := clockConfigInt_tick h
  obtain ⟨htick, hpos⟩ := rangeCheckInt_tick hcheck
  refine ⟨hclkhz, hpsc, by omega, by omega, ?_, ?_⟩
  · rintro t rfl
    exact htick
  · rintro rfl
    have hbaud' : baud ≠ 0 := fun e => hbaud (.inr ⟨e, rfl⟩)
    exact ⟨by omega, htick⟩

end

/-- On register values the integer form is TickCalc, check by check (R104, R121). -/
theorem tickCalc_eq_clockConfigInt (clkhz : Word) (psc baud : Half) (ovr : Word) (ovrEn : Bool) :
    tickCalc clkhz psc baud ovr ovrEn =
      clockConfigInt clkhz.toNat psc.toNat baud.toNat (if ovrEn then some (ovr.toNat : Int) else none) := by
  by_cases hpsc : psc = 0
  · subst hpsc
    exact (clockConfigInt_of_psc_nonpos le_rfl).symm
  have hpsc' : (0 : Int) < psc.toNat := Int.natCast_pos.mpr (BitVec.toNat_pos_of_ne_zero hpsc)
  have hclkhz : (0 : Int) ≤ clkhz.toNat := Int.natCast_nonneg _
  cases ovrEn with
  | true =>
    rw [tickCalc_override hpsc, clockConfigInt_of_checked hpsc' (by simp) hclkhz]
    exact (rangeCheckInt_natCast _).symm
  | false =>
    by_cases hbaud : baud = 0
    · subst hbaud
      rw [tickCalc_baud_zero hpsc]
      exact (clockConfigInt_of_bad_baud hpsc' (.inr ⟨rfl, rfl⟩)).symm
    · have hbaud' := BitVec.toNat_pos_of_ne_zero hbaud
      rw [tickCalc_computed hpsc hbaud, clockConfigInt_of_checked hpsc' (by omega) hclkhz, ← rangeCheckInt_natCast,
        ← effectiveTickInt_natCast]
      rfl

/-- Settles O14: the checks of the integer form in their order, and its agreement with TickCalc. -/
theorem integerClockConfigNeverWraps : Obligations.IntegerClockConfigNeverWraps := by
  refine ⟨fun clkhz psc baud override => ⟨fun hpsc => clockConfigInt_of_psc_nonpos hpsc.le,
    fun hpsc hbaud => clockConfigInt_of_bad_baud hpsc (.inl hbaud), ?_, clockConfigInt_error_of_clkhz_neg,
    fun hpsc hbaud hnone => clockConfigInt_of_clkhz_neg hpsc ?_, fun v => clockConfigInt_tick_exact⟩,
    tickCalc_eq_clockConfigInt⟩
  · rintro hpsc hbaud t rfl
    exact clockConfigInt_of_override_neg hpsc hbaud
  · rintro (hneg | ⟨hzero, e⟩)
    · exact hneg.not_ge hbaud
    · exact (hnone e).ne' hzero

end Sys2Proof.Machine
end

section
/-! The read of CALC right after another instruction (R109): it answers for the registers that instruction left. -/

namespace Sys2Proof.Machine

theorem halfOperand_eq_ofNat_toNat (d : Word) : halfOperand d = BitVec.ofNat 16 d.toNat := by
  rw [← halfOperand_ofNat, BitVec.ofNat_toNat, BitVec.setWidth_eq]

theorem exec_rdCalc_after (i : Instr) (s : State) :
    ∃ t, (∃ u, exec i s = .next u ∧ exec .rdCalc u = .next t) ∧
      t.response = some (.data (verdictRdata (instrBlock i s.block).verdict)) :=
  ⟨_, ⟨_, exec_eq i s, exec_eq .rdCalc _⟩, rfl⟩

/-- Settles O8: each write leaves its own register new and the others as they were (`instrBlock`). -/
theorem calcSeesProfileWriteAtOnce : Obligations.CalcSeesProfileWriteAtOnce := by
  intro s d
  rw [← halfOperand_eq_ofNat_toNat, ← bitOperand_eq]
  exact ⟨exec_rdCalc_after (.wrClkhz d) s, exec_rdCalc_after (.wrPsc d) s, exec_rdCalc_after (.wrBaud d) s,
    exec_rdCalc_after (.wrOvr d) s, exec_rdCalc_after (.wrOvrctl d) s⟩

end Sys2Proof.Machine
end

section
/-! The CLK step (R140, R141): an equation for each of its branches, and its frame. -/

namespace Sys2Proof.Machine

section

variable {b : Block} (free : Half)

theorem running_iff : b.running = true ↔ b.en = true ∧ b.halted = false := by
  simp [Block.running]

theorem running_eq_false_iff : b.running = false ↔ b.en = false ∨ b.halted = true := by
  rw [Block.running, Bool.and_eq_false_iff, Bool.not_eq_false']

theorem preAtEnd_iff : b.preAtEnd = true ↔ b.pre.toNat + 1 = b.apsc.toNat :=
  beq_iff_eq

theorem cntAtEnd_iff : b.cntAtEnd = true ↔ b.cnt.toNat + 1 = b.cmp.toNat :=
  beq_iff_eq

theorem matchNow_iff : b.matchNow = true ↔ b.running = true ∧ b.preAtEnd = true ∧ b.cntAtEnd = true := by
  simp [Block.matchNow, and_assoc]

theorem clk_of_stopped (h : b.running = false) : b.clk free = b := by
  simp [Block.clk, h]

theorem clk_advances_pre (hrun : b.running = true) (hpre : b.preAtEnd = false) :
    b.clk free = b.setPre (increment free b.pre) := by
  simp [Block.clk, hrun, hpre]

theorem clk_at_preEnd (hrun : b.running = true) (hpre : b.preAtEnd = true) :
    b.clk free = (b.setPre 0).pTick free := by
  simp [Block.clk, hrun, hpre]

theorem clk_advances_cnt (hrun : b.running = true) (hpre : b.preAtEnd = true) (hcnt : b.cntAtEnd = false) :
    b.clk free = (b.setPre 0).setCnt (increment free b.cnt) := by
  rw [clk_at_preEnd free hrun hpre]
  exact if_neg (Bool.eq_false_iff.mp hcnt)

theorem clk_matches (hrun : b.running = true) (hpre : b.preAtEnd = true) (hcnt : b.cntAtEnd = true) :
    b.clk free = ((b.setPre 0).setCnt 0).setFlag := by
  rw [clk_at_preEnd free hrun hpre]
  exact if_pos hcnt

/-- A CLK step writes PRE, CNT and F alone (R140, R141). -/
theorem clk_frame (b : Block) :
    b.clk free = { b with pre := (b.clk free).pre, cnt := (b.clk free).cnt, f := (b.clk free).f } := by
  obtain ⟨-, e⟩ | ⟨-, -, e⟩ | ⟨-, -, -, e⟩ | ⟨-, e⟩ := clk_cases free b <;> rw [e] <;> rfl

theorem clk_en (b : Block) : (b.clk free).en = b.en := by
  rw [clk_frame]

/-- A CLK step takes F to 1 only (R172). -/
theorem clk_keeps_flag (h : b.f = true) : (b.clk free).f = true := by
  obtain ⟨-, e⟩ | ⟨-, -, e⟩ | ⟨-, -, -, e⟩ | ⟨-, e⟩ := clk_cases free b <;> rw [e]
  · exact h
  · exact h
  · exact h
  · rfl

/-- Below a register's value the increment is the sum, with no free value (R11). -/
theorem increment_below {v bound : Half} (h : v.toNat < bound.toNat) :
    increment free v = BitVec.ofNat 16 (v.toNat + 1) :=
  increment_of_fits free (by omega)

end

/-- Settles O21: the frame of the CLK step on the block; the machine's step is `step_clk`. -/
theorem clkFrame : Obligations.ClkFrame := by
  intro s t hclk hstep
  rw [step_clk hclk] at hstep
  cases hstep
  exact ⟨clk_frame _ s.block, clk_keeps_flag _, rfl, rfl⟩

/-- Settles O20, an equation of the CLK step for each case; R37 makes each sum fit (R11). -/
theorem clkStepAdvancesTimer : Obligations.ClkStepAdvancesTimer := by
  intro s hclk hcons
  refine ⟨_, step_clk hclk, fun hstop => clk_of_stopped _ (running_eq_false_iff.mpr hstop), fun hen hhalted => ?_⟩
  have hrun := running_iff.mpr ⟨hen, hhalted⟩
  have hpre := hcons.pre_lt_apsc hen
  have hcnt := hcons.cnt_lt_cmp hen
  refine ⟨fun hp => ?_, fun hp hc => ?_, fun hp hc => ?_⟩
  · rw [← increment_below (Config.freeSum (s.steps + 1)) hpre]
    exact clk_advances_pre _ hrun (preAtEnd_eq_false_iff.mpr (by omega))
  · rw [← increment_below (Config.freeSum (s.steps + 1)) hcnt]
    exact clk_advances_cnt _ hrun (preAtEnd_iff.mpr (by omega)) (cntAtEnd_eq_false_iff.mpr (by omega))
  · exact clk_matches _ hrun (preAtEnd_iff.mpr (by omega)) (cntAtEnd_iff.mpr (by omega))

end Sys2Proof.Machine
end

section
/-! The two commands of the symbol timer (R132 to R138): what CONFIGURE makes of the block in each of its three cases,
the frame of both, and that nothing but a successful CONFIGURE arms the timer. -/

namespace Sys2Proof.Machine

theorem decode_configureWord : decode 0x9800000001 = .instr .cmdConfigure := by decide

theorem decode_disableWord : decode 0x9800000002 = .instr .cmdDisable := by decide

section

variable {b : Block}

theorem configure_of_halted (h : b.halted = true) : b.configure = b := by
  simp [Block.configure, h]

theorem configure_of_error {c : Cause} (hhalted : b.halted = false) (hverdict : b.verdict = .error c) :
    b.configure = b.configurationError c := by
  simp [Block.configure, hhalted, hverdict]

/-- Neither command reaches the flag or the profile (R134). -/
theorem instrBlock_of_command {i : Instr} (h : i = .cmdConfigure ∨ i = .cmdDisable) (b : Block) :
    (instrBlock i b).f = b.f ∧ (instrBlock i b).clkhz = b.clkhz ∧ (instrBlock i b).psc = b.psc ∧
      (instrBlock i b).baud = b.baud ∧ (instrBlock i b).ovr = b.ovr ∧ (instrBlock i b).ovrEn = b.ovrEn := by
  obtain rfl | rfl := h
  · obtain ⟨-, e⟩ | ⟨c, -, -, e⟩ | ⟨t, -, -, e⟩ := configure_cases b <;> rw [instrBlock, e] <;>
      exact ⟨rfl, rfl, rfl, rfl, rfl, rfl⟩
  · exact ⟨rfl, rfl, rfl, rfl, rfl, rfl⟩

/-- A CONFIGURE that sets EN is a successful one (R138). -/
theorem configure_sets_en (hen : b.en = false) (hen' : b.configure.en = true) :
    b.halted = false ∧ ∃ n, b.verdict = .tick n := by
  obtain ⟨-, e⟩ | ⟨c, -, -, e⟩ | ⟨n, hhalted, hverdict, -⟩ := configure_cases b
  · rw [e, hen] at hen'; cases hen'
  · rw [e, Block.configurationError_en, hen] at hen'; cases hen'
  · exact ⟨hhalted, n, hverdict⟩

/-- An instruction that sets EN is a CONFIGURE. -/
theorem instrBlock_sets_en {i : Instr} (hen : b.en = false) (hen' : (instrBlock i b).en = true) :
    i = .cmdConfigure := by
  cases i with
  | cmdConfigure => rfl
  | cmdDisable => cases hen'
  | wrClkhz | wrPsc | wrBaud | wrOvr | wrOvrctl | rdTake | rdClkhz | rdPsc | rdBaud | rdOvr | rdOvrctl | rdCalc
  | rdStatus | rdCmp | rdCnt | rdApsc => exact absurd (hen.symm.trans hen') nofun

end

/-- Settles O15, case by case of CONFIGURE. -/
theorem configureArmsOrHalts : Obligations.ConfigureArmsOrHalts := by
  refine ⟨decode_configureWord, fun s => ⟨fun h => ?_, fun c hhalted hverdict => ?_, fun n hhalted hverdict => ?_⟩⟩ <;>
    rw [exec_eq, instrBlock]
  · rw [configure_of_halted h]; rfl
  · rw [configure_of_error hhalted hverdict]; rfl
  · rw [configure_eq_arm hverdict hhalted]; rfl

/-- Settles O16: DISABLE is the update of EN, in every state. -/
theorem disableClearsEnableAlone : Obligations.DisableClearsEnableAlone :=
  ⟨decode_disableWord, exec_eq .cmdDisable⟩

/-- Settles O17: the block by the commands' frame, the rest of the machine by `exec_eq`. -/
theorem commandsLeaveFlagAndProfile : Obligations.CommandsLeaveFlagAndProfile := by
  intro i s t hi h
  obtain ⟨hf, hclkhz, hpsc, hbaud, hovr, hovrEn⟩ := instrBlock_of_command hi s.block
  obtain rfl := exec_next h
  exact ⟨hf, hclkhz, hpsc, hbaud, hovr, hovrEn, rfl, rfl, rfl⟩

/-- Settles O18, by the four kinds of event a step can run. -/
theorem onlySuccessfulConfigureArms : Obligations.OnlySuccessfulConfigureArms := by
  intro s t hstep hen hen'
  obtain ⟨-, rfl⟩ | ⟨-, rfl⟩ | ⟨w, i, he, hd, rfl⟩ | ⟨w, c, -, -, rfl⟩ := step_next hstep
  · exact absurd (hen.symm.trans ((clk_en _ s.block).symm.trans hen')) nofun
  · cases hen'
  · obtain rfl := instrBlock_sets_en hen hen'
    obtain ⟨hhalted, n, hverdict⟩ := configure_sets_en hen hen'
    exact ⟨w, n, he, hd, hhalted, hverdict⟩
  · exact absurd (hen.symm.trans hen') nofun

end Sys2Proof.Machine
end

section
/-! The marks of a CLK step and of an instruction, and a stopped timer, which holds its count (R137). -/

namespace Sys2Proof.Machine

theorem stepMark_clk {s : State} (h : s.nextEvent = .clk) :
    stepMark s = if s.block.matchNow then some .tick else none := by
  rw [stepMark, h]

/-- A RD_TAKE alone of the instructions leaves a mark. -/
theorem stepMark_instr {s : State} {w : Txn} {i : Instr} (h : s.nextEvent = .host w) (hd : decode w = .instr i)
    (hi : i ≠ .rdTake) : stepMark s = none := by
  simp [stepMark, h, isTake, hd, hi]

theorem matchNow_of_stopped {b : Block} (h : b.running = false) : b.matchNow = false := by
  simp [Block.matchNow, h]

/-- While the timer is stopped, CLK steps leave the block and no mark (R137, R140). -/
theorem run_clks_of_stopped {s : State} {k : Nat} {rest : List Event}
    (hpending : s.pending = List.replicate k .clk ++ rest) (hrun : s.block.running = false) :
    ∃ t, run k s = .next t ∧ t.block = s.block ∧ marks k s = [] := by
  induction k generalizing s with
  | zero => exact ⟨s, rfl, rfl, rfl⟩
  | succ k ih =>
    have hclk : s.nextEvent = .clk := nextEvent_cons hpending
    have hstep := step_clk hclk
    rw [clk_of_stopped _ hrun] at hstep
    obtain ⟨t, hrun', hblock, hmarks⟩ :=
      ih (s := s.after s.block s.response s.faults) (congrArg List.tail hpending) hrun
    refine ⟨t, (run_succ k hstep).trans hrun', hblock, ?_⟩
    rw [marks_succ k hstep, hmarks, stepMark_clk hclk, matchNow_of_stopped hrun]
    rfl

/-- Settles O19: DISABLE stops the timer, the CLK steps then hold, and CONFIGURE starts again from 0. -/
theorem disableHoldsTheCount : Obligations.DisableHoldsTheCount := by
  intro s k rest hpending
  have hhost := nextEvent_cons hpending
  have hstep : step s = .next (s.afterInstr .cmdDisable) := step_instr hhost decode_disableWord
  obtain ⟨t, hrun, hblock, hmarks⟩ := run_clks_of_stopped (s := s.afterInstr .cmdDisable)
    (congrArg List.tail hpending) (running_eq_false_iff.mpr (.inl rfl))
  refine ⟨t, (run_succ k hstep).trans hrun, hblock, ?_, fun n hhalted hverdict => ?_⟩
  · rw [marks_succ k hstep, hmarks, stepMark_instr hhost decode_disableWord nofun]
    rfl
  · refine ⟨_, exec_eq .cmdConfigure t, ?_⟩
    rw [instrBlock, configure_eq_arm hverdict hhalted]
    exact ⟨rfl, rfl, rfl⟩

end Sys2Proof.Machine
end

section
/-! The period law (R142 to R144): an armed timer holds the digits of the number of its CLK steps, PRE the low one to
the base APSC and CNT the next one to the base CMP, and a CLK step is a MATCH where both digits are at their end. -/

namespace Sys2Proof.Machine

section

variable {p j : Nat}

theorem dvd_add_one_iff_mod (hp : 1 ≤ p) : p ∣ j + 1 ↔ j % p + 1 = p := by
  have hlt := Nat.mod_lt j hp
  rw [← Nat.div_add_mod j p, Nat.add_assoc, Nat.dvd_add_right (Nat.dvd_mul_right p _), Nat.div_add_mod]
  exact ⟨fun h => le_antisymm hlt (Nat.le_of_dvd (Nat.succ_pos _) h), fun h => dvd_of_eq h.symm⟩

theorem add_one_mod_of_not_dvd (hp : 1 ≤ p) (h : ¬ p ∣ j + 1) : (j + 1) % p = j % p + 1 := by
  have hlt := Nat.mod_lt j hp
  have hne := mt (dvd_add_one_iff_mod hp).mpr h
  rw [← Nat.mod_add_mod, Nat.mod_eq_of_lt (by omega)]

/-- A step number is a multiple of the whole period where both digits turn over at it. -/
theorem mul_dvd_add_one_iff {n : Nat} : p * n ∣ j + 1 ↔ p ∣ j + 1 ∧ n ∣ j / p + 1 := by
  have hdigit (hp : p ∣ j + 1) : n ∣ j / p + 1 ↔ p * n ∣ j + 1 := by
    rw [← Nat.succ_div_of_dvd hp, Nat.dvd_div_iff_mul_dvd hp]
  refine ⟨fun h => ?_, fun ⟨hp, hn⟩ => (hdigit hp).mp hn⟩
  have hp : p ∣ j + 1 := (Nat.dvd_mul_right p n).trans h
  exact ⟨hp, (hdigit hp).mpr h⟩

/-- A register at a digit of `j` goes, by the increment, to the same digit of `j + 1` where the digit does not turn
over. -/
theorem increment_digit {v bound : Half} (free : Half) (hpos : 1 ≤ bound.toNat) (hv : v.toNat = j % bound.toNat)
    (h : ¬ bound.toNat ∣ j + 1) : (increment free v).toNat = (j + 1) % bound.toNat := by
  have hlt := Nat.mod_lt j hpos
  rw [increment_toNat free (by omega), hv, add_one_mod_of_not_dvd hpos h]

end

/-- The timer runs with prescaler `psc` and threshold `tick`, and stands where `j` CLK steps after its CONFIGURE leave
it (R143). -/
structure Block.ArmedAt (psc tick : Half) (j : Nat) (b : Block) : Prop where
  en : b.en = true
  halted : b.halted = false
  cmp : b.cmp = tick
  apsc : b.apsc = psc
  pre : b.pre.toNat = j % psc.toNat
  cnt : b.cnt.toNat = j / psc.toNat % tick.toNat
  psc_pos : 1 ≤ psc.toNat
  tick_pos : 1 ≤ tick.toNat

namespace Block.ArmedAt

variable {b : Block} {psc tick : Half} {j : Nat}

theorem running (h : b.ArmedAt psc tick j) : b.running = true :=
  running_iff.mpr ⟨h.en, h.halted⟩

theorem preAtEnd_iff (h : b.ArmedAt psc tick j) : b.preAtEnd = true ↔ psc.toNat ∣ j + 1 := by
  rw [Machine.preAtEnd_iff, h.apsc, h.pre, dvd_add_one_iff_mod h.psc_pos]

theorem cntAtEnd_iff (h : b.ArmedAt psc tick j) : b.cntAtEnd = true ↔ tick.toNat ∣ j / psc.toNat + 1 := by
  rw [Machine.cntAtEnd_iff, h.cmp, h.cnt, dvd_add_one_iff_mod h.tick_pos]

/-- The next CLK step is a MATCH exactly when its number is a multiple of the period (R142). -/
theorem matchNow_iff (h : b.ArmedAt psc tick j) : b.matchNow = true ↔ psc.toNat * tick.toNat ∣ j + 1 := by
  rw [Machine.matchNow_iff, h.preAtEnd_iff, h.cntAtEnd_iff, mul_dvd_add_one_iff]
  exact and_iff_right h.running

/-- A CLK step takes the digits of `j` to those of `j + 1` (R140, R141). -/
theorem clk (h : b.ArmedAt psc tick j) (free : Half) : (b.clk free).ArmedAt psc tick (j + 1) := by
  have hrun := h.running
  by_cases hpre : psc.toNat ∣ j + 1
  · have hpreEnd := h.preAtEnd_iff.mpr hpre
    have hpre' : 0 = (j + 1) % psc.toNat := (Nat.mod_eq_zero_of_dvd hpre).symm
    by_cases hcnt : tick.toNat ∣ j / psc.toNat + 1
    · rw [clk_matches free hrun hpreEnd (h.cntAtEnd_iff.mpr hcnt)]
      exact { h with
        pre := hpre'
        cnt := by rw [Nat.succ_div_of_dvd hpre, Nat.mod_eq_zero_of_dvd hcnt]; rfl }
    · rw [clk_advances_cnt free hrun hpreEnd (Bool.eq_false_iff.mpr (mt h.cntAtEnd_iff.mp hcnt))]
      exact { h with
        pre := hpre'
        cnt := by rw [Nat.succ_div_of_dvd hpre]; exact increment_digit free h.tick_pos h.cnt hcnt }
  · rw [clk_advances_pre free hrun (Bool.eq_false_iff.mpr (mt h.preAtEnd_iff.mp hpre))]
    exact { h with
      pre := increment_digit free h.psc_pos h.pre hpre
      cnt := by rw [Nat.succ_div_of_not_dvd hpre]; exact h.cnt }

/-- Every instruction but the two commands leaves the timer where it is (R63, R142). -/
theorem instrBlock (h : b.ArmedAt psc tick j) {i : Instr} (hconfigure : i ≠ .cmdConfigure)
    (hdisable : i ≠ .cmdDisable) : (instrBlock i b).ArmedAt psc tick j := by
  cases i with
  | cmdConfigure => exact absurd rfl hconfigure
  | cmdDisable => exact absurd rfl hdisable
  | wrClkhz | wrPsc | wrBaud | wrOvr | wrOvrctl | rdTake => exact { h with }
  | rdClkhz | rdPsc | rdBaud | rdOvr | rdOvrctl | rdCalc | rdStatus | rdCmp | rdCnt | rdApsc => exact h

/-- A successful CONFIGURE puts the timer at the start of its period (R132, R143). -/
theorem arm (hhalted : b.halted = false) (hverdict : b.verdict = .tick tick) : (b.arm tick).ArmedAt b.psc tick 0 where
  en := rfl
  halted := hhalted
  cmp := rfl
  apsc := rfl
  pre := (Nat.zero_mod _).symm
  cnt := by rw [Nat.zero_div, Nat.zero_mod]; rfl
  psc_pos := (verdict_tick hverdict).2
  tick_pos := (verdict_tick hverdict).1

end Block.ArmedAt

theorem leavesTimer_iff {w : Txn} :
    leavesTimer w = true ↔ decode w ≠ .instr .cmdConfigure ∧ decode w ≠ .instr .cmdDisable := by
  simp [leavesTimer]

theorem matchCount_append (ms ms' : List Mark) : matchCount (ms ++ ms') = matchCount ms + matchCount ms' :=
  List.count_append

/-- A HOST step leaves no MATCH. -/
theorem matchCount_stepMark_host {s : State} {w : Txn} (h : s.nextEvent = .host w) :
    matchCount (stepMark s).toList = 0 := by
  rw [stepMark, h]
  dsimp only
  split <;> rfl

section

variable {psc tick : Half} {j : Nat} {s : State}

/-- A CLK step at an armed timer counts one more step, and one more MATCH where a period ends at it. -/
theorem step_clk_of_armedAt (h : s.block.ArmedAt psc tick j) (hclk : s.nextEvent = .clk) :
    ∃ t, step s = .next t ∧ t.pending = s.pending.tail ∧ t.block.ArmedAt psc tick (j + 1) ∧
      matchCount (stepMark s).toList + j / (psc.toNat * tick.toNat) = (j + 1) / (psc.toNat * tick.toNat) := by
  refine ⟨_, step_clk hclk, rfl, h.clk _, ?_⟩
  rw [stepMark_clk hclk, Nat.succ_div, Nat.add_comm]
  simp only [h.matchNow_iff]
  split <;> rfl

/-- A HOST transaction that is no command leaves an armed timer where it is, legal or not (R63, R200). -/
theorem step_host_of_armedAt (h : s.block.ArmedAt psc tick j) {w : Txn} (hhost : s.nextEvent = .host w)
    (hw : leavesTimer w = true) :
    ∃ t, step s = .next t ∧ t.pending = s.pending.tail ∧ t.block.ArmedAt psc tick j := by
  obtain ⟨hconfigure, hdisable⟩ := leavesTimer_iff.mp hw
  cases hd : decode w with
  | instr i =>
    exact ⟨_, step_instr hhost hd, rfl, h.instrBlock (fun e => hconfigure (e ▸ hd)) fun e => hdisable (e ▸ hd)⟩
  | illegal c => exact ⟨_, step_illegal hhost hd, rfl, h⟩

/-- R142 and R143 along a run: the timer is where the CLK steps of the traffic put it, and every end of a period among
them was a MATCH. -/
theorem run_traffic_of_armedAt {es rest : List Event} (h : s.block.ArmedAt psc tick j)
    (hpending : s.pending = es ++ rest) (hes : ∀ e ∈ es, e.isTraffic = true) :
    ∃ t, run es.length s = .next t ∧ t.block.ArmedAt psc tick (j + es.count .clk) ∧
      matchCount (marks es.length s) + j / (psc.toNat * tick.toNat) =
        (j + es.count .clk) / (psc.toNat * tick.toNat) := by
  induction es generalizing s j with
  | nil => exact ⟨s, rfl, h, Nat.zero_add _⟩
  | cons e es ih =>
    obtain ⟨he, hes'⟩ := List.forall_mem_cons.mp hes
    have hnext : s.nextEvent = e := nextEvent_cons hpending
    have htail : s.pending.tail = es ++ rest := congrArg List.tail hpending
    cases e with
    | clk =>
      obtain ⟨t, hstep, hpending', h', hmatch⟩ := step_clk_of_armedAt h hnext
      obtain ⟨u, hrun, hu, hcount⟩ := ih h' (hpending'.trans htail) hes'
      rw [List.length_cons, List.count_cons_self, marks_succ _ hstep, matchCount_append, run_succ _ hstep]
      rw [Nat.add_assoc, Nat.add_comm 1] at hu hcount
      exact ⟨u, hrun, hu, by omega⟩
    | host w =>
      obtain ⟨t, hstep, hpending', h'⟩ := step_host_of_armedAt h hnext he
      rw [List.length_cons, List.count_cons_of_ne (by simp), marks_succ _ hstep, matchCount_append, run_succ _ hstep,
        matchCount_stepMark_host hnext, Nat.zero_add]
      exact ih h' (hpending'.trans htail) hes'
    | reset => cases he
    | narrow => cases he

/-- Two timers at the same step of the same period match at the same of the CLK steps to come. -/
theorem marks_clks_congr {s' : State} {k : Nat} {rest rest' : List Event} (h : s.block.ArmedAt psc tick j)
    (h' : s'.block.ArmedAt psc tick j) (hpending : s.pending = List.replicate k .clk ++ rest)
    (hpending' : s'.pending = List.replicate k .clk ++ rest') : marks k s' = marks k s := by
  induction k generalizing s s' j with
  | zero => rfl
  | succ k ih =>
    have hclk : s.nextEvent = .clk := nextEvent_cons hpending
    have hclk' : s'.nextEvent = .clk := nextEvent_cons hpending'
    have hmatch : s'.block.matchNow = s.block.matchNow :=
      Bool.eq_iff_iff.mpr (h'.matchNow_iff.trans h.matchNow_iff.symm)
    obtain ⟨t, hstep, htail, ht, -⟩ := step_clk_of_armedAt h hclk
    obtain ⟨t', hstep', htail', ht', -⟩ := step_clk_of_armedAt h' hclk'
    rw [marks_succ k hstep, marks_succ k hstep', stepMark_clk hclk, stepMark_clk hclk', hmatch,
      ih ht ht' (htail.trans (congrArg List.tail hpending)) (htail'.trans (congrArg List.tail hpending'))]

end

section

variable {s : State} {n : Half} {rest : List Event}

/-- A successful CONFIGURE leaves no mark and F as it was, and its timer stands at the start of a period (R132,
R134, R143). -/
theorem step_configure (hpending : s.pending = .host 0x9800000001 :: rest) (hhalted : s.block.halted = false)
    (hverdict : s.block.verdict = .tick n) :
    stepMark s = none ∧ ∃ t, step s = .next t ∧ t.pending = rest ∧ t.block.f = s.block.f ∧
      t.block.ArmedAt s.block.psc n 0 := by
  have hhost := nextEvent_cons hpending
  refine ⟨stepMark_instr hhost decode_configureWord nofun, _, step_instr hhost decode_configureWord,
    congrArg List.tail hpending, ?_⟩
  rw [State.after_block, instrBlock, configure_eq_arm hverdict hhalted]
  exact ⟨rfl, .arm hhalted hverdict⟩

/-- From any phase of the timer, DISABLE and a successful CONFIGURE bring it to the start of a period, with no mark
(R139). -/
theorem disable_configure (hpending : s.pending = .host 0x9800000002 :: .host 0x9800000001 :: rest)
    (hhalted : s.block.halted = false) (hverdict : s.block.verdict = .tick n) :
    ∃ t, (∀ k, run (k + 2) s = run k t) ∧ (∀ k, marks (k + 2) s = marks k t) ∧ t.pending = rest ∧
      t.block.ArmedAt s.block.psc n 0 := by
  have hhost := nextEvent_cons hpending
  have hdisable : step s = .next (s.afterInstr .cmdDisable) := step_instr hhost decode_disableWord
  have hmark := stepMark_instr hhost decode_disableWord nofun
  obtain ⟨hmark', t, hconfigure, ht, -, harmed⟩ :=
    step_configure (s := s.afterInstr .cmdDisable) (congrArg List.tail hpending) hhalted hverdict
  refine ⟨t, fun k => ?_, fun k => ?_, ht, harmed⟩
  · rw [run_succ _ hdisable, run_succ _ hconfigure]
  · rw [marks_succ _ hdisable, marks_succ _ hconfigure, hmark, hmark']
    rfl

end

/-- Settles O22: CONFIGURE starts the count at 0, and the traffic takes it to the number of its CLK steps. -/
theorem matchesFallOnMultiplesOfThePeriod : Obligations.MatchesFallOnMultiplesOfThePeriod := by
  intro s n es rest hpending hhalted hverdict hes
  obtain ⟨hmark, u, hstep, hu, hf, harmed⟩ := step_configure hpending hhalted hverdict
  obtain ⟨t, hrun, ht, -⟩ := run_traffic_of_armedAt harmed hu hes
  rw [Nat.zero_add] at ht
  exact ⟨hmark, ⟨u, hstep, hf⟩, t, (run_succ _ hstep).trans hrun, ht.en, ht.halted, ht.cmp, ht.apsc, ht.pre, ht.cnt,
    ht.matchNow_iff⟩

/-- Settles O23: the count of matches along the traffic, from step number 0. -/
theorem matchCountIsStepsOverPeriod : Obligations.MatchCountIsStepsOverPeriod := by
  intro s n es rest hpending hhalted hverdict hes
  obtain ⟨hmark, u, hstep, hu, -, harmed⟩ := step_configure hpending hhalted hverdict
  obtain ⟨t, -, -, hcount⟩ := run_traffic_of_armedAt harmed hu hes
  rw [Nat.zero_div, Nat.add_zero, Nat.zero_add] at hcount
  rw [marks_succ _ hstep, hmark, matchCount_append, hcount]
  exact Nat.zero_add _

/-- Settles O24: the two commands bring both timers to the start of one period, and the CLK steps then count alike. -/
theorem disableConfigureIsIdempotent : Obligations.DisableConfigureIsIdempotent := by
  intro s s' k rest rest' n hpending hpending' hhalted hhalted' hverdict hclkhz hpsc hbaud hovr hovrEn
  have hverdict' : s'.block.verdict = .tick n := by
    rw [Block.verdict, hclkhz, hpsc, hbaud, hovr, hovrEn]
    exact hverdict
  have hclks : ∀ e ∈ List.replicate k Event.clk, e.isTraffic = true := fun e he => List.eq_of_mem_replicate he ▸ rfl
  obtain ⟨u, hrun, hmarks, hu, harmed⟩ := disable_configure hpending hhalted hverdict
  obtain ⟨u', hrun', hmarks', hu', harmed'⟩ := disable_configure hpending' hhalted' hverdict'
  rw [hpsc] at harmed'
  obtain ⟨t, ht, htimer, -⟩ := run_traffic_of_armedAt harmed hu hclks
  obtain ⟨t', ht', htimer', -⟩ := run_traffic_of_armedAt harmed' hu' hclks
  rw [List.length_replicate] at ht ht'
  refine ⟨t, t', (hrun k).trans ht, (hrun' k).trans ht', ?_, ?_, ?_⟩
  · exact BitVec.eq_of_toNat_eq (htimer'.cnt.trans htimer.cnt.symm)
  · exact BitVec.eq_of_toNat_eq (htimer'.pre.trans htimer.pre.symm)
  · rw [hmarks, hmarks', marks_clks_congr harmed harmed' hu hu']

end Sys2Proof.Machine
end

section
/-! The tick flag's rules (R171 to R175): which step writes F, and with what mark. -/

namespace Sys2Proof.Machine

theorem decode_takeWord : decode 0x2C00000000 = .instr .rdTake := by decide

theorem bitRdata_eq_ite (v : Bool) : bitRdata v = if v then 1 else 0 := by
  cases v <;> rfl

section

variable {b : Block} (free : Half)

/-- A CLK step that is a MATCH starts the period again and does Set() (R141, R172). -/
theorem clk_of_matchNow (h : b.matchNow = true) : b.clk free = ((b.setPre 0).setCnt 0).setFlag := by
  obtain ⟨hrun, hpre, hcnt⟩ := matchNow_iff.mp h
  exact clk_matches free hrun hpre hcnt

/-- A CLK step writes F exactly where it is a MATCH (R171, R172). -/
theorem clk_f (b : Block) : (b.clk free).f = (b.matchNow || b.f) := by
  obtain ⟨hrun, e⟩ | ⟨-, hpre, e⟩ | ⟨-, -, hcnt, e⟩ | ⟨hmatch, e⟩ := clk_cases free b <;> rw [e]
  · simp [Block.matchNow, hrun]
  · simp [Block.matchNow, hpre]
  · simp [Block.matchNow, hcnt]
  · simp [hmatch]

/-- Of the instructions RD_TAKE alone writes F (R171). -/
theorem instrBlock_f {i : Instr} (h : i ≠ .rdTake) (b : Block) : (instrBlock i b).f = b.f := by
  cases i with
  | rdTake => exact absurd rfl h
  | cmdConfigure => exact (instrBlock_of_command (.inl rfl) b).1
  | cmdDisable | wrClkhz | wrPsc | wrBaud | wrOvr | wrOvrctl => rfl
  | rdClkhz | rdPsc | rdBaud | rdOvr | rdOvrctl | rdCalc | rdStatus | rdCmp | rdCnt | rdApsc => rfl

end

section

variable {s : State} {w : Txn}

theorem stepMark_take (h : s.nextEvent = .host w) (hd : decode w = .instr .rdTake) :
    stepMark s = some (.take s.block.f) := by
  simp [stepMark, h, isTake, hd]

theorem stepMark_illegal {c : BusCause} (h : s.nextEvent = .host w) (hd : decode w = .illegal c) :
    stepMark s = none := by
  simp [stepMark, h, isTake, hd]

theorem stepMark_reset (h : s.nextEvent = .reset) : stepMark s = some .reset := by
  rw [stepMark, h]

end

/-- What a step does to F, with the mark it leaves: nothing, or it is a MATCH, a Take() or a RESET (R171). -/
theorem step_flag {s t : State} (h : step s = .next t) :
    (stepMark s = none ∧ t.block.f = s.block.f) ∨
    (stepMark s = some .tick ∧ t.block.f = true ∧ s.nextEvent = .clk ∧ s.block.matchNow = true) ∨
    (stepMark s = some (.take s.block.f) ∧ t.block.f = false ∧
      ∃ w, s.nextEvent = .host w ∧ decode w = .instr .rdTake) ∨
    (stepMark s = some .reset ∧ t.block.f = false ∧ s.nextEvent = .reset) := by
  obtain ⟨he, rfl⟩ | ⟨he, rfl⟩ | ⟨w, i, he, hd, rfl⟩ | ⟨w, c, he, hd, rfl⟩ := step_next h
  · rw [stepMark_clk he, State.after_block, clk_f]
    cases hmatch : s.block.matchNow with
    | false => exact .inl ⟨rfl, rfl⟩
    | true => exact .inr (.inl ⟨rfl, rfl, he, rfl⟩)
  · exact .inr (.inr (.inr ⟨stepMark_reset he, rfl, he⟩))
  · by_cases hi : i = .rdTake
    · subst hi
      exact .inr (.inr (.inl ⟨stepMark_take he hd, rfl, w, he, hd⟩))
    · exact .inl ⟨stepMark_instr he hd hi, instrBlock_f hi s.block⟩
  · exact .inl ⟨stepMark_illegal he hd, rfl⟩

end Sys2Proof.Machine
end

section
/-! Tick accounting (R181). A run writes F only in the steps its marks record, so the marks alone say how F ends, and
each claim is an induction over them. -/

namespace Sys2Proof.Machine

/-- A flag at `f` goes through the marks to `g`: a MATCH sets it, a Take() returns it as it was and clears it, a RESET
clears it (R172, R174, R230). -/
inductive FlagTrace : Bool → List Mark → Bool → Prop where
  | nil (f : Bool) : FlagTrace f [] f
  | tick {f g : Bool} {ms : List Mark} (h : FlagTrace true ms g) : FlagTrace f (.tick :: ms) g
  | take {f g : Bool} {ms : List Mark} (h : FlagTrace false ms g) : FlagTrace f (.take f :: ms) g
  | reset {f g : Bool} {ms : List Mark} (h : FlagTrace false ms g) : FlagTrace f (.reset :: ms) g

/-- The flag of a run goes through the marks of the run. -/
theorem flagTrace_of_run {k : Nat} {s t : State} (h : run k s = .next t) :
    FlagTrace s.block.f (marks k s) t.block.f := by
  induction k generalizing s with
  | zero => cases h; exact .nil _
  | succ k ih =>
    cases hstep : step s with
    | next u =>
      rw [run_succ k hstep] at h
      rw [marks_succ k hstep]
      have hrest := ih h
      obtain ⟨hmark, hf⟩ | ⟨hmark, hf, -⟩ | ⟨hmark, hf, -⟩ | ⟨hmark, hf, -⟩ := step_flag hstep <;>
        rw [hf] at hrest <;> rw [hmark]
      · exact hrest
      · exact .tick hrest
      · exact .take hrest
      · exact .reset hrest
    | fault r => exact nomatch r
    | refused r => rw [run, hstep] at h; cases h

section

variable (ms : List Mark)

@[simp] theorem matchCount_tick : matchCount (.tick :: ms) = matchCount ms + 1 := by simp [matchCount]

@[simp] theorem matchCount_take (v : Bool) : matchCount (.take v :: ms) = matchCount ms := by simp [matchCount]

@[simp] theorem matchCount_reset : matchCount (.reset :: ms) = matchCount ms := by simp [matchCount]

@[simp] theorem takenCount_tick : takenCount (.tick :: ms) = takenCount ms := by simp [takenCount]

@[simp] theorem takenCount_take (v : Bool) : takenCount (.take v :: ms) = takenCount ms + v.toNat := by
  cases v <;> simp [takenCount]

@[simp] theorem takenCount_reset : takenCount (.reset :: ms) = takenCount ms := by simp [takenCount]

end

/-- The marks with the MATCH of a tick pending before them, if there is one. -/
def withPending : Bool → List Mark → List Mark
  | false, ms => ms
  | true, ms => .tick :: ms

namespace FlagTrace

variable {f g : Bool} {ms : List Mark}

/-- R181 (a), a tick pending at the start counted with the MATCH events. -/
theorem taken_le (h : FlagTrace f ms g) : takenCount ms + g.toNat ≤ matchCount ms + f.toNat := by
  induction h with
  | nil f => exact le_rfl
  | tick _ ih =>
    simp only [takenCount_tick, matchCount_tick, Bool.toNat_true] at ih ⊢
    omega
  | take _ ih =>
    simp only [takenCount_take, matchCount_take, Bool.toNat_false] at ih ⊢
    omega
  | reset _ ih =>
    simp only [takenCount_reset, matchCount_reset, Bool.toNat_false] at ih ⊢
    omega

/-- R181 (b), a tick pending at the start counted with the MATCH events: only a RESET loses the last of them. -/
theorem one_le_taken (h : FlagTrace f ms g) (hreset : Mark.reset ∉ ms) (hmatch : 1 ≤ matchCount ms + f.toNat) :
    1 ≤ takenCount ms + g.toNat := by
  induction h with
  | nil f => exact hmatch
  | tick _ ih => simpa using ih (List.not_mem_of_not_mem_cons hreset) (by simp)
  | @take f _ _ _ ih =>
    cases f with
    | true => exact Nat.le_add_right_of_le (by simp)
    | false => simpa using ih (List.not_mem_of_not_mem_cons hreset) (by simpa using hmatch)
  | reset => simp at hreset

/-- R181 (c): with a Take() between every two MATCH events, each MATCH finds F = 0, so none is lost. -/
theorem taken_eq (h : FlagTrace f ms g) (hreset : Mark.reset ∉ ms)
    (hbetween : takeBetweenMatches (withPending f ms) = true) :
    takenCount ms + g.toNat = matchCount ms + f.toNat := by
  induction h with
  | nil f => rfl
  | @tick f _ _ _ ih =>
    cases f with
    | false => simpa using ih (List.not_mem_of_not_mem_cons hreset) hbetween
    | true => cases hbetween
  | @take f _ ms _ ih =>
    have hbetween' : takeBetweenMatches ms = true := by cases f <;> exact hbetween
    have hcount := ih (List.not_mem_of_not_mem_cons hreset) hbetween'
    simp only [takenCount_take, matchCount_take, Bool.toNat_false] at hcount ⊢
    omega
  | reset => simp at hreset

/-- R181 (d): with each MATCH answered by a Take() that returns 1, the two counts agree and F ends clear. -/
theorem taken_eq_and_clear (h : FlagTrace f ms g) (hreset : Mark.reset ∉ ms)
    (htaken : everyMatchTaken (withPending f ms) = true) :
    takenCount ms = matchCount ms + f.toNat ∧ g = false := by
  induction h with
  | nil f =>
    cases f with
    | false => exact ⟨rfl, rfl⟩
    | true => cases htaken
  | @tick f _ _ _ ih =>
    cases f with
    | false => simpa using ih (List.not_mem_of_not_mem_cons hreset) htaken
    | true => cases htaken
  | @take f _ ms _ ih =>
    have htaken' : everyMatchTaken ms = true := by cases f <;> exact htaken
    simpa using ih (List.not_mem_of_not_mem_cons hreset) htaken'
  | reset => simp at hreset

/-- With no MATCH a clear flag stays clear. -/
theorem eq_false_of_no_tick (h : FlagTrace false ms g) (htick : Mark.tick ∉ ms) : g = false := by
  have hle := h.taken_le
  have hnone : matchCount ms = 0 := List.count_eq_zero_of_not_mem htick
  cases g with
  | false => rfl
  | true => simp [hnone] at hle

end FlagTrace

/-- Settles O35: (a) and (b) of the marks of the run, from a clear flag. -/
theorem takesNeverExceedMatches : Obligations.TakesNeverExceedMatches := by
  intro k s t hf hrun
  have htrace := flagTrace_of_run hrun
  rw [hf] at htrace
  exact ⟨htrace.taken_le, htrace.one_le_taken⟩

/-- Settles O36: (c) and (d) of the marks of the run, from a clear flag. -/
theorem noTickIsLostInTime : Obligations.NoTickIsLostInTime := by
  intro k s t hf hrun hreset
  have htrace := flagTrace_of_run hrun
  rw [hf] at htrace
  exact ⟨htrace.taken_eq hreset, htrace.taken_eq_and_clear hreset⟩

end Sys2Proof.Machine
end

section
/-! What the flag's transaction and its CLK step do, in one step, in one cycle and up to the next MATCH (R171 to
R177). -/

namespace Sys2Proof.Machine

/-- Settles O31: who can write F is `step_flag`, and that each of them does is its own step. -/
theorem onlySetAndTakeWriteTheFlag : Obligations.OnlySetAndTakeWriteTheFlag := by
  intro s t hstep
  refine ⟨fun hf hf' => ?_, fun hf hf' => ?_, fun he hmatch => ?_, fun w he hd => ?_, fun he => ?_⟩
  · obtain ⟨-, e⟩ | ⟨-, -, h⟩ | ⟨-, e, -⟩ | ⟨-, e, -⟩ := step_flag hstep
    · simp [hf, hf'] at e
    · exact h
    · simp [hf'] at e
    · simp [hf'] at e
  · obtain ⟨-, e⟩ | ⟨-, e, -⟩ | ⟨-, -, h⟩ | ⟨-, -, h⟩ := step_flag hstep
    · simp [hf, hf'] at e
    · simp [hf'] at e
    · exact .inr h
    · exact .inl h
  · rw [step_clk he] at hstep
    cases hstep
    rw [State.after_block, clk_f, hmatch, Bool.true_or]
  · rw [step_instr he hd] at hstep
    cases hstep
    rfl
  · rw [step_reset he] at hstep
    cases hstep
    rfl

/-- The step of a MATCH sets F whatever it was (R141, R173). -/
theorem step_match {s : State} (hclk : s.nextEvent = .clk) (hmatch : s.block.matchNow = true) :
    step s = .next (s.after ((s.block.setPre 0).setCnt 0).setFlag s.response s.faults) := by
  rw [step_clk hclk, clk_of_matchNow _ hmatch]

/-- Settles O32: neither the test for a MATCH nor what the MATCH leaves depends on F. -/
theorem coalescedTickLeavesNoTrace : Obligations.CoalescedTickLeavesNoTrace := by
  intro s hclk hmatch
  exact ⟨_, step_match (s := { s with block := { s.block with f := true } }) hclk hmatch,
    step_match (s := { s with block := { s.block with f := false } }) hclk hmatch, rfl⟩

/-- Settles O33: after the MATCH the Take() finds F = 1; before it, F as it was, and the MATCH then sets it. -/
theorem sameCycleSetAndTake : Obligations.SameCycleSetAndTake := by
  intro s rest hmatch
  refine ⟨⟨_, run_clk_instr s decode_takeWord rest, ?_, rfl⟩, ⟨_, run_instr_clk s decode_takeWord rest, ?_, ?_⟩⟩
  · rw [clk_of_matchNow _ hmatch]
    rfl
  · rw [← bitRdata_eq_ite]
    rfl
  · rw [clk_f]
    exact Bool.or_eq_true_iff.mpr (.inl hmatch)

/-- A RD_TAKE that finds F = 0 returns 0 and leaves the block as it is (R174, R175). -/
theorem rdTake_of_clear {s t : State} (h : exec .rdTake s = .next t) (hf : s.block.f = false) :
    t.response = some (.data 0) ∧ t.block = s.block := by
  obtain rfl := exec_next h
  refine ⟨?_, ?_⟩
  · rw [instrResponse, hf]
    rfl
  · rw [instrBlock, Block.clearFlag, ← hf]

/-- Settles O34: the first read clears F, and the second finds it clear. -/
theorem secondTakeReturnsZero : Obligations.SecondTakeReturnsZero := by
  intro s t u ht hu
  obtain rfl := exec_next ht
  exact ⟨by rw [← bitRdata_eq_ite]; rfl, rfl, rdTake_of_clear hu rfl⟩

/-- Settles O49: the first read clears F, and a run without a MATCH keeps it clear. -/
theorem takeReturnsZeroUntilMatch : Obligations.TakeReturnsZeroUntilMatch := by
  intro k s t u v ht hrun htick hv
  obtain rfl := exec_next ht
  have hf : u.block.f = false := (flagTrace_of_run hrun).eq_false_of_no_tick htick
  exact ⟨hf, rdTake_of_clear hv hf⟩

end Sys2Proof.Machine
end

section
/-! A MATCH and a CONFIGURE in one cycle, in both orders (R207). -/

namespace Sys2Proof.Machine

section

variable {b : Block} {n : Half} (free : Half)

/-- A block about to match is not halted (R140). -/
theorem halted_of_matchNow (h : b.matchNow = true) : b.halted = false := by
  obtain ⟨hrun, -⟩ := matchNow_iff.mp h
  exact (running_iff.mp hrun).2

/-- A CONFIGURE after the MATCH reads the profile and HALTED, neither of which the MATCH wrote (R141, R207). -/
theorem configure_clk_of_matchNow (hmatch : b.matchNow = true) (hverdict : b.verdict = .tick n) :
    (b.clk free).configure = (((b.setPre 0).setCnt 0).setFlag).arm n := by
  have hhalted := halted_of_matchNow hmatch
  rw [clk_of_matchNow free hmatch]
  exact configure_eq_arm hverdict hhalted

/-- The CLK step right after a successful CONFIGURE is a MATCH exactly where the new period is one step (R141). -/
theorem matchNow_arm (hhalted : b.halted = false) (hverdict : b.verdict = .tick n) :
    (b.arm n).matchNow = decide (b.psc.toNat * n.toNat = 1) := by
  rw [Bool.eq_iff_iff, (Block.ArmedAt.arm hhalted hverdict).matchNow_iff, Nat.zero_add, Nat.dvd_one, decide_eq_true_iff]

end

/-- Settles O25: CLK first, CONFIGURE overwrites what the MATCH left but F; CONFIGURE first, the CLK step is the first
of the new period. -/
theorem sameCycleMatchAndConfigure : Obligations.SameCycleMatchAndConfigure := by
  intro s n rest hmatch hverdict
  have hhalted := halted_of_matchNow hmatch
  refine ⟨⟨_, run_clk_instr s decode_configureWord rest, ?_⟩, ⟨_, run_instr_clk s decode_configureWord rest, ?_⟩⟩
  · simp only [instrBlock, configure_clk_of_matchNow _ hmatch hverdict]
    exact ⟨rfl, rfl, rfl, rfl, rfl⟩
  · simp only [instrBlock, configure_eq_arm hverdict hhalted]
    have hfirst := (Block.ArmedAt.arm hhalted hverdict).clk (Config.freeSum (s.steps + 2))
    refine ⟨?_, hfirst.pre, hfirst.cnt⟩
    rw [clk_f, matchNow_arm hhalted hverdict, Bool.or_comm, Block.arm_f]

end Sys2Proof.Machine
end

section
/-! The ConfigurationError (R202): what sets HALTED, and what a halted block still does. -/

namespace Sys2Proof.Machine

/-- `b'` is halted as `b` is, with the same CAUSE and the same timer, and is armed only if `b` is (R135, R202). -/
structure Block.HaltedLike (b b' : Block) : Prop where
  halted : b'.halted = true
  cause : b'.cause = b.cause
  cmp : b'.cmp = b.cmp
  apsc : b'.apsc = b.apsc
  cnt : b'.cnt = b.cnt
  pre : b'.pre = b.pre
  en : b'.en = true → b.en = true

section

variable {b : Block}

theorem Block.HaltedLike.refl (h : b.halted = true) : b.HaltedLike b :=
  ⟨h, rfl, rfl, rfl, rfl, rfl, id⟩

theorem running_of_halted (h : b.halted = true) : b.running = false :=
  running_eq_false_iff.mpr (.inr h)

/-- While halted CONFIGURE is ignored, DISABLE clears EN alone, and no other instruction reaches the timer (R135,
R136). -/
theorem instrBlock_of_halted (h : b.halted = true) (i : Instr) : b.HaltedLike (instrBlock i b) := by
  cases i with
  | cmdConfigure => rw [instrBlock, configure_of_halted h]; exact .refl h
  | cmdDisable => exact { Block.HaltedLike.refl h with en := nofun }
  | wrClkhz | wrPsc | wrBaud | wrOvr | wrOvrctl | rdTake => exact { Block.HaltedLike.refl h with }
  | rdClkhz | rdPsc | rdBaud | rdOvr | rdOvrctl | rdCalc | rdStatus | rdCmp | rdCnt | rdApsc => exact .refl h

/-- A CONFIGURE that sets HALTED is one whose TickCalc fails (R132, R202). -/
theorem configure_sets_halted (hhalted : b.halted = false) (hhalted' : b.configure.halted = true) :
    ∃ c, b.verdict = .error c ∧ b.configure = b.configurationError c := by
  obtain ⟨-, e⟩ | ⟨c, -, hverdict, e⟩ | ⟨n, -, -, e⟩ := configure_cases b
  · rw [e, hhalted] at hhalted'; cases hhalted'
  · exact ⟨c, hverdict, e⟩
  · rw [e, Block.arm_halted, hhalted] at hhalted'; cases hhalted'

/-- CONFIGURE is the only instruction that writes HALTED. -/
theorem instrBlock_halted {i : Instr} (h : i ≠ .cmdConfigure) (b : Block) : (instrBlock i b).halted = b.halted := by
  cases i with
  | cmdConfigure => exact absurd rfl h
  | wrClkhz | wrPsc | wrBaud | wrOvr | wrOvrctl | cmdDisable | rdTake => rfl
  | rdClkhz | rdPsc | rdBaud | rdOvr | rdOvrctl | rdCalc | rdStatus | rdCmp | rdCnt | rdApsc => rfl

theorem clk_halted (free : Half) (b : Block) : (b.clk free).halted = b.halted := by
  rw [clk_frame]

end

section

variable {s t : State}

/-- A halted block stays so, its timer held, in every step but a RESET (R202). -/
theorem step_of_halted (h : s.block.halted = true) (hreset : s.nextEvent ≠ .reset) (hstep : step s = .next t) :
    s.block.HaltedLike t.block := by
  obtain ⟨-, rfl⟩ | ⟨he, -⟩ | ⟨w, i, -, -, rfl⟩ | ⟨w, c, -, -, rfl⟩ := step_next hstep
  · rw [State.after_block, clk_of_stopped _ (running_of_halted h)]
    exact .refl h
  · exact absurd he hreset
  · exact instrBlock_of_halted h i
  · exact .refl h

/-- A CLK step changes nothing of a halted block (R140). -/
theorem step_clk_of_halted (h : s.block.halted = true) (he : s.nextEvent = .clk) :
    step s = .next (s.after s.block s.response s.faults) := by
  rw [step_clk he, clk_of_stopped _ (running_of_halted h)]

/-- A halted block answers CONFIGURE with OK and ignores it (R135). -/
theorem step_configure_of_halted (h : s.block.halted = true) {w : Txn} (he : s.nextEvent = .host w)
    (hd : decode w = .instr .cmdConfigure) : step s = .next (s.after s.block (some .ok) s.faults) := by
  rw [step_instr he hd, instrBlock, configure_of_halted h, instrResponse]

/-- A step that leaves the mark of a MATCH was about to match. -/
theorem matchNow_of_stepMark_tick (h : stepMark s = some .tick) : s.block.matchNow = true := by
  cases he : s.nextEvent with
  | clk => rw [stepMark_clk he] at h; simpa using h
  | host w => simp [stepMark, he] at h
  | reset => simp [stepMark, he] at h
  | narrow => simp [stepMark, he] at h

theorem stepMark_ne_tick_of_halted (h : s.block.halted = true) : stepMark s ≠ some .tick := fun htick =>
  absurd ((matchNow_of_stopped (running_of_halted h)).symm.trans (matchNow_of_stepMark_tick htick)) nofun

end

/-- Settles O28: the block by `step_of_halted`, the two steps told in full by their own equations. -/
theorem haltedHoldsUntilReset : Obligations.HaltedHoldsUntilReset := by
  intro s t h hreset hstep
  obtain ⟨hhalted, hcause, hcmp, hapsc, hcnt, hpre, hen⟩ := step_of_halted h hreset hstep
  refine ⟨hhalted, hcause, hcmp, hapsc, hcnt, hpre, hen, fun he => ?_, fun w he hd => ?_⟩
  · exact (Host.Outcome.next.inj ((step_clk_of_halted h he).symm.trans hstep)).symm
  · exact (Host.Outcome.next.inj ((step_configure_of_halted h he hd).symm.trans hstep)).symm

/-- Settles O29, by the four kinds of event a step can run: a CONFIGURE alone writes 1 to HALTED. -/
theorem onlyConfigurationErrorHalts : Obligations.OnlyConfigurationErrorHalts := by
  intro s t h hstep h'
  obtain ⟨-, rfl⟩ | ⟨-, rfl⟩ | ⟨w, i, he, hd, rfl⟩ | ⟨w, c, -, -, rfl⟩ := step_next hstep
  · rw [State.after_block, clk_halted, h] at h'; cases h'
  · cases h'
  · by_cases hi : i = .cmdConfigure
    · subst hi
      obtain ⟨c, hverdict, e⟩ := configure_sets_halted h h'
      rw [State.after_block, instrBlock, e]
      exact ⟨w, c, he, hd, hverdict, rfl, causeCode_bounds c⟩
    · rw [State.after_block, instrBlock_halted hi, h] at h'; cases h'
  · rw [State.after_block, h] at h'; cases h'

/-- Settles O30, by induction on the run: no step of a halted block is a MATCH, and all but RESET leave it halted. -/
theorem noMatchWhileHalted : Obligations.NoMatchWhileHalted := by
  intro k
  induction k with
  | zero => exact fun _ _ _ => List.not_mem_nil
  | succ k ih =>
    intro s h hreset
    have hmark := stepMark_ne_tick_of_halted h
    cases hstep : step s with
    | next t =>
      rw [marks_succ k hstep, List.mem_append, not_or, Option.mem_toList] at hreset ⊢
      obtain ⟨hmarkReset, hreset'⟩ := hreset
      have hevent : s.nextEvent ≠ .reset := fun he => hmarkReset (stepMark_reset he)
      exact ⟨hmark, ih t (step_of_halted h hevent hstep).halted hreset'⟩
    | fault r => exact nomatch r
    | refused r =>
      rw [marks, hstep, List.append_nil, Option.mem_toList]
      exact hmark

end Sys2Proof.Machine
end

section
/-! The fault history (R201). -/

namespace Sys2Proof.Machine

/-- Settles O45: an illegal word is `step_illegal`; of the four kinds of event a step can run it alone writes the
history. -/
theorem faultHistoryOnlyGrows : Obligations.FaultHistoryOnlyGrows := by
  intro s t hstep
  refine ⟨fun w c he hd => ?_, fun hlegal => ?_⟩
  · rw [step_illegal he hd] at hstep
    cases hstep
    exact ⟨rfl, rfl, rfl⟩
  · obtain ⟨-, rfl⟩ | ⟨-, rfl⟩ | ⟨w, i, -, -, rfl⟩ | ⟨w, c, he, hd, -⟩ := step_next hstep
    · rfl
    · rfl
    · rfl
    · exact absurd hd (hlegal w c he)

end Sys2Proof.Machine
end

section
/-! RESET (R230), and what the block answers right after it (R232). -/

namespace Sys2Proof.Machine

/-- Settles O1: a RESET step leaves `Block.reset` (`step_reset`), whose elements are 0 by its definition. -/
theorem resetClearsEveryElement : Obligations.ResetClearsEveryElement :=
  ⟨fun _ h => ⟨_, step_reset h, rfl, rfl, rfl, rfl, rfl, rfl, rfl, rfl, rfl, rfl, rfl, rfl, rfl⟩, rfl⟩

/-- With PSC = 0 the first check of R105 fails. -/
theorem verdict_reset : Block.reset.verdict = .error .pscInvalid := tickCalc_psc_zero

theorem verdictRdata_reset : verdictRdata Block.reset.verdict = 0x80010000 := by
  rw [verdict_reset]; decide

theorem configure_reset : Block.reset.configure = { Block.reset with halted := true, cause := 1 } :=
  configure_of_error rfl verdict_reset

/-- A read that leaves the block as it was changes the response alone. -/
theorem exec_of_block_unchanged {i : Instr} {s : State} {v : Word} (hblock : instrBlock i s.block = s.block)
    (hresponse : instrResponse i s.block = .data v) : exec i s = .next { s with response := some (.data v) } := by
  rw [exec_eq, hblock, hresponse]

/-- Settles O2: every read leaves the reset block as it is, RD_TAKE too as F is 0 there already, and CONFIGURE fails as
CALC foretells. -/
theorem readsRightAfterReset : Obligations.ReadsRightAfterReset := by
  intro s h
  have hcalc : instrResponse .rdCalc Block.reset = .data 0x80010000 := congrArg Response.data verdictRdata_reset
  have hstatus : instrResponse .rdStatus Block.reset = .data 0 := by decide
  refine ⟨_, step_reset h, exec_of_block_unchanged rfl hcalc, exec_of_block_unchanged rfl hstatus,
    exec_of_block_unchanged rfl rfl, exec_of_block_unchanged rfl rfl, exec_of_block_unchanged rfl rfl,
    exec_of_block_unchanged rfl rfl, ?_⟩
  rw [exec_eq, State.after_block, instrBlock, configure_reset, instrResponse]

end Sys2Proof.Machine
end
